-- ==== Sys2Proof/Word.lean ====
section
/-! DEFINITION. The bit-vector types of HBGIO's registers and ports (R12, R22): all unsigned, bit 0 least significant. -/

namespace Sys2Proof

/-- A command word as presented on CMD (R58). -/
abbrev Word := BitVec 16

/-- A byte: RSP, LAST, ERRC, EXT_SR, a segment pattern (R22, R29, R30). -/
abbrev Byte := BitVec 8

/-- Four bits, one per switch input, or a 4-bit index (R4, R6). -/
abbrev Nibble := BitVec 4

end Sys2Proof
end

