-- ==== Sys2Proof/Syntax.lean ====
section
/-! DEFINITION. The ten commands of HBGIO, one constructor per row of the opcode map (R61), with the operands of R60. -/

namespace Sys2Proof

inductive Instr where
  /-- NOP (R103). -/
  | nop
  /-- SHIFT imm8 (R76): the byte to transfer. -/
  | shift (imm8 : Byte)
  /-- SHOW imm4 (R77): a segment ROM index. (`show` is a word of Lean.) -/
  | showSeg (imm4 : Nibble)
  /-- RDSW (R83). -/
  | rdsw
  /-- RDREG r (R104): the 4-bit register index as the word holds it; 8 to 15 are reserved. -/
  | rdreg (r : Nibble)
  /-- WRCTRL imm4 (R105): the new CTRL. -/
  | wrctrl (imm4 : Nibble)
  /-- WREDGE imm4 (R98): the new EDGE. -/
  | wredge (imm4 : Nibble)
  /-- ARM (R99). -/
  | arm
  /-- CLRPEND imm4 (R100): the mask of flags to clear. -/
  | clrpend (mask : Nibble)
  /-- ACK (R101). -/
  | ack
  deriving DecidableEq, Repr

end Sys2Proof
end

