-- ==== Sys2Proof/WellFormed.lean ====
section
/-! DEFINITION. Which commands are legal as syntax (R61, R62): every operand value is, but for the reserved register
indices 8 to 15 of RDREG. -/

namespace Sys2Proof

def Instr.wellFormed : Instr → Bool
  | .nop => true
  | .shift _ => true
  | .showSeg _ => true
  | .rdsw => true
  | .rdreg r => r < 8
  | .wrctrl _ => true
  | .wredge _ => true
  | .arm => true
  | .clrpend _ => true
  | .ack => true

end Sys2Proof
end

