-- ==== Sys2Proof/Decode.lean ====
section
/-! DEFINITION. Decoding of a command word (R59 to R63), total and rejecting by name, and the encoder from the same
format table. -/

namespace Sys2Proof

/-- The four formats of R59. -/
inductive Format where
  | z
  | i8
  | i4
  | r
  deriving DecidableEq, Repr

/-- Why a word is illegal (R106). Codes 0 and 4 to 7 do not exist. -/
inductive Cause where
  /-- Code 1, RESERVED_OPCODE. -/
  | reservedOpcode
  /-- Code 2, NONZERO_MBZ. -/
  | nonzeroMbz
  /-- Code 3, RESERVED_REG. -/
  | reservedReg
  deriving DecidableEq, Repr

/-- What a word is: a legal command, or an illegal word with its cause and its opcode field (R63). -/
inductive Decoded where
  | legal (i : Instr)
  | illegal (c : Cause) (op : Nibble)
  deriving DecidableEq, Repr

/-- `op = w[15:12]` (R59). -/
def opField (w : Word) : Nibble := w.extractLsb' 12 4

/-- `r = w[11:8]` (R60). -/
def regField (w : Word) : Nibble := w.extractLsb' 8 4

/-- `imm8 = w[7:0]` (R60). -/
def imm8Field (w : Word) : Byte := w.extractLsb' 0 8

/-- `imm4 = w[3:0]` (R60). -/
def imm4Field (w : Word) : Nibble := w.extractLsb' 0 4

/-- All must-be-zero bits of the format are 0 (R59, R63). -/
def mbzClear (w : Word) : Format → Bool
  | .z => w.extractLsb' 0 12 == 0
  | .i8 => w.extractLsb' 8 4 == 0
  | .i4 => w.extractLsb' 4 8 == 0
  | .r => w.extractLsb' 0 8 == 0

/-- The command `i` if the must-be-zero bits of its format are 0, else cause 2 (R63). -/
def checkMbz (w : Word) (f : Format) (i : Instr) : Decoded :=
  if mbzClear w f then .legal i else .illegal .nonzeroMbz (opField w)

/-- The decoding of R63: reserved opcodes first, then reserved registers, then must-be-zero bits (R106). -/
def decode (w : Word) : Decoded :=
  match (opField w).toNat with
  | 0 => checkMbz w .z .nop
  | 1 => checkMbz w .i8 (.shift (imm8Field w))
  | 2 => checkMbz w .i4 (.showSeg (imm4Field w))
  | 3 => checkMbz w .z .rdsw
  | 4 => if 8 ≤ regField w then .illegal .reservedReg (opField w) else checkMbz w .r (.rdreg (regField w))
  | 5 => checkMbz w .i4 (.wrctrl (imm4Field w))
  | 6 => checkMbz w .i4 (.wredge (imm4Field w))
  | 7 => checkMbz w .z .arm
  | 8 => checkMbz w .i4 (.clrpend (imm4Field w))
  | 9 => checkMbz w .z .ack
  | _ => .illegal .reservedOpcode (opField w)

/-- The instruction the decoder reads from a row's word, numbered as the opcode table numbers it; HBGIO's words are 16
bits long, so the word is the whole instruction (R58; log 17). -/
def decodeTableWord (nbits w : Nat) : Option Instr :=
  match decode (BitVec.ofNat 16 (w % 2 ^ nbits)) with
  | .legal i => some i
  | .illegal _ _ => none

/-- Format Z: `oooo000000000000` (R59). -/
def wordZ (op : Nibble) : Word := op ++ 0#12

/-- Format I8: `oooo0000iiiiiiii` (R59). -/
def wordI8 (op : Nibble) (imm8 : Byte) : Word := op ++ 0#4 ++ imm8

/-- Format I4: `oooo00000000vvvv` (R59). -/
def wordI4 (op imm4 : Nibble) : Word := op ++ 0#8 ++ imm4

/-- Format R: `oooorrrr00000000` (R59). -/
def wordR (op r : Nibble) : Word := op ++ r ++ 0#8

/-- The opcode of each command (R61). -/
def Instr.opcode : Instr → Nibble
  | .nop => 0x0
  | .shift _ => 0x1
  | .showSeg _ => 0x2
  | .rdsw => 0x3
  | .rdreg _ => 0x4
  | .wrctrl _ => 0x5
  | .wredge _ => 0x6
  | .arm => 0x7
  | .clrpend _ => 0x8
  | .ack => 0x9

/-- The word of a command (R59, R61). -/
def encode : Instr → Word
  | .nop => wordZ 0x0
  | .shift v => wordI8 0x1 v
  | .showSeg i => wordI4 0x2 i
  | .rdsw => wordZ 0x3
  | .rdreg r => wordR 0x4 r
  | .wrctrl m => wordI4 0x5 m
  | .wredge m => wordI4 0x6 m
  | .arm => wordZ 0x7
  | .clrpend m => wordI4 0x8 m
  | .ack => wordZ 0x9

/-- One row of the opcode map of R61. -/
structure OpRow where
  mnemonic : String
  matchBits : Word
  mask : Word
  deriving DecidableEq, Repr

/-- A word selects a row when its masked bits are the row's match bits (R61). -/
def OpRow.selects (row : OpRow) (w : Word) : Bool := w &&& row.mask == row.matchBits

/-- The row of R61 a command belongs to. -/
def Instr.row : Instr → OpRow
  | .nop => ⟨"NOP", 0x0000, 0xFFFF⟩
  | .shift _ => ⟨"SHIFT", 0x1000, 0xFF00⟩
  | .showSeg _ => ⟨"SHOW", 0x2000, 0xFFF0⟩
  | .rdsw => ⟨"RDSW", 0x3000, 0xFFFF⟩
  | .rdreg _ => ⟨"RDREG", 0x4000, 0xF0FF⟩
  | .wrctrl _ => ⟨"WRCTRL", 0x5000, 0xFFF0⟩
  | .wredge _ => ⟨"WREDGE", 0x6000, 0xFFF0⟩
  | .arm => ⟨"ARM", 0x7000, 0xFFFF⟩
  | .clrpend _ => ⟨"CLRPEND", 0x8000, 0xFFF0⟩
  | .ack => ⟨"ACK", 0x9000, 0xFFFF⟩

/-- The opcode map of R61. -/
def opcodeMap : List OpRow :=
  [Instr.nop.row, (Instr.shift 0).row, (Instr.showSeg 0).row, Instr.rdsw.row, (Instr.rdreg 0).row,
   (Instr.wrctrl 0).row, (Instr.wredge 0).row, Instr.arm.row, (Instr.clrpend 0).row, Instr.ack.row]

end Sys2Proof
end

