-- ==== Sys2Proof/Config.lean ====
section
/-! DEFINITION. What the spec leaves open: the OPEN parameters of R7 to R10 and PIN_MAP (D38), and the free draws of
the environment. Each is a constant with no body, so nothing can be proved of its value (R19). -/

namespace Sys2Proof.Config

/-- DEBOUNCE_TICKS of the instance that `State.reset` stands for (R7). UNVERIFIED value: open (log 4). -/
opaque debounceTicks : BitVec 16

/-- SEG_TABLE[1] to SEG_TABLE[14] of the instance that `State.reset` stands for, entry i at position i - 1 (R9; log 4). -/
opaque segEntries : Vector Byte 14

/-- The levels on SW_IN in the n-th tick, where that tick's input is not scripted: a free draw of the environment (R38; logs 2, 7). -/
opaque freeLevels : Nat → Nibble

/-- The content of EXT_SR at power-up, which the spec says a model draws (R78; log 6). -/
opaque extSrPowerUp : Byte

/-- T_TICK, the real-time length of one tick; no rule reads it (R8; log 13). -/
opaque tTick : Rat

/-- Which way the pull resistor of a switch input pulls (R10). -/
inductive PullDir where
  | up
  | down
  deriving DecidableEq, Repr, Inhabited

/-- PULL_DIR; it belongs to the environment and no rule reads it (R10; log 13). -/
opaque pullDir : PullDir

/-- The level an open switch presents under a pull direction (R10, R81): a fact of the board, read by no rule. -/
def openSwitchLevel : PullDir → Bool
  | .up => true
  | .down => false

/-- The six board-facing lines (C7, R22). -/
inductive Line where
  | dataLine
  | clkLine
  | swIn (i : Fin 4)
  deriving DecidableEq, Repr

/-- PIN_MAP, the package pin of each line; no rule reads it (D38; log 13). -/
opaque pinMap : Line → Nat

end Sys2Proof.Config
end

