-- ==== Sys2Proof/Machine/State.lean ====
section
/-! DEFINITION. The state of HBGIO, of the environment's shift register and of the ports (10_state.md section 8, R22), as
plain data; the stop reasons; the state right after reset (R120). -/

namespace Sys2Proof.Machine

/-- ENG.phase (R33, R69 to R71). -/
inductive Phase where
  | setup
  | high
  | low
  deriving DecidableEq, Repr

/-- The shift engine's state ENG (R33). -/
structure Engine where
  busy : Bool
  sh : Byte
  n : BitVec 3
  phase : Phase
  deriving DecidableEq, Repr

/-- The sequencer's states, in the order of their codes 0 to 6; code 7 is unreachable and not represented
(R34, U7; log 12). -/
inductive Fsm where
  | idle
  | wait
  | dstart
  | dshift
  | dhold
  | arm
  | clear
  deriving DecidableEq, Repr

/-- What is fixed when an HBGIO instance is built and never written: DEBOUNCE_TICKS (R7) and the open entries 1 to 14 of
the segment ROM, entry i at position i - 1 (R9, R37; log 4). -/
structure Instance where
  debounceTicks : BitVec 16
  segOpen : Vector Byte 14
  deriving DecidableEq, Repr

/-- The input ports in one tick: RST, SW_IN, and CMD where CMD_VALID = 1 (R22, R38). -/
structure TickInput where
  rst : Bool
  swIn : Nibble
  cmd : Option Word
  deriving DecidableEq, Repr

/-- The output ports to the host in one tick: CMD_ACCEPT, RSP_VALID, RSP (R22; log 8). -/
structure HostOut where
  accept : Bool
  rspValid : Bool
  rsp : Byte
  deriving DecidableEq, Repr

/-- Everything the spec gives the machine, and the outside world's script of coming ticks. -/
structure State where
  /-- CTRL (R23): EN bit 0, AUTO bit 1, HOLD bit 2, CIE bit 3. -/
  ctrl : Nibble
  /-- CHG (R25). -/
  chg : Bool
  /-- VALUE (R26). -/
  value : Nibble
  /-- EDGE (R27). -/
  edge : Nibble
  /-- PEND (R28). -/
  pend : Nibble
  /-- LAST (R29). -/
  last : Byte
  /-- ERRC (R30): V bit 7, CAUSE bits 6:4, OP bits 3:0. -/
  errc : Byte
  /-- PREV (R32). -/
  prev : Nibble
  /-- ENG (R33). -/
  eng : Engine
  /-- FSM (R34). -/
  fsm : Fsm
  /-- DBCNT (R34, R115). -/
  dbcnt : BitVec 16
  /-- ACKED (R34). -/
  acked : Bool
  /-- The DATA pin register (R35). -/
  data : Bool
  /-- The CLK pin register (R35). -/
  clk : Bool
  /-- The parameters fixed when the instance was built, the segment ROM among them (R7, R9, R37). -/
  inst : Instance
  /-- EXT_SR, the external shift register of the environment (R78). -/
  extSr : Byte
  /-- The input ports in the current tick, and after a tick those of that tick (R22, R38). -/
  input : TickInput
  /-- The output ports CMD_ACCEPT, RSP_VALID, RSP of the last tick (R22; log 8). -/
  out : HostOut
  /-- The model's own: what the host and the environment present in the coming ticks (R38, R57; log 1). -/
  script : List TickInput
  /-- The model's own: ticks run so far, the reset tick included; it indexes the free draws (R38; log 2). -/
  ticks : Nat
  deriving DecidableEq, Repr

/-- Reasons a step stops with a fault. There are none: no rule of the spec stops the machine, an illegal command is
recorded in ERRC and the tick goes on (R14, R107, R108; log 10). -/
inductive Fault where
  deriving DecidableEq, Repr

/-- Reasons the model refuses an instruction. -/
inductive Refusal where
  /-- An arm of `exec` with no meaning yet; no arm raises it. Safe. -/
  | notModelled (mnemonic : String)
  deriving DecidableEq, Repr

/-- The engine at reset (R33, R120). -/
def Engine.reset : Engine := ⟨false, 0x00, 0, .setup⟩

/-- CMD_ACCEPT = 0, RSP_VALID = 0, RSP = 0x00: a tick with no command, a stalled word or RST (R56, R63, R120). -/
def HostOut.none : HostOut := ⟨false, false, 0x00⟩

/-- The machine right after a reset tick (R120, R122). DESIGN CHOICE: the reset tick's levels are free draw 0, and nothing
is scripted (logs 2, 7). The instance parameters and EXT_SR are constants with no body (logs 4, 6). -/
def State.reset : State where
  ctrl := 0x0
  chg := false
  value := 0x0
  edge := 0x0
  pend := 0x0
  last := 0x00
  errc := 0x00
  prev := Config.freeLevels 0
  eng := Engine.reset
  fsm := .idle
  dbcnt := 0
  acked := false
  data := false
  clk := false
  inst := ⟨Config.debounceTicks, Config.segEntries⟩
  extSr := Config.extSrPowerUp
  input := ⟨true, Config.freeLevels 0, none⟩
  out := HostOut.none
  script := []
  ticks := 1

end Sys2Proof.Machine
end

