-- ==== Sys2Proof/Machine/Flags.lean ====
section
/-! DEFINITION. Every flag computation of the spec: the fields of CTRL (R23), STATUS (R24), the code of FSM (R31, R34),
IRQ (R36), the ERRC record (R30, R106), the armed edges (R84), and quiescence (R137). -/

namespace Sys2Proof.Machine

/-- CTRL.EN (R23). -/
def State.en (s : State) : Bool := s.ctrl.getLsbD 0

/-- CTRL.AUTO (R23). -/
def State.auto (s : State) : Bool := s.ctrl.getLsbD 1

/-- CTRL.HOLD (R23). -/
def State.hold (s : State) : Bool := s.ctrl.getLsbD 2

/-- CTRL.CIE (R23). -/
def State.cie (s : State) : Bool := s.ctrl.getLsbD 3

/-- The code of a sequencer state (R34). -/
def Fsm.code : Fsm → BitVec 3
  | .idle => 0
  | .wait => 1
  | .dstart => 2
  | .dshift => 3
  | .dhold => 4
  | .arm => 5
  | .clear => 6

/-- STATUS.DBACT: FSM ≠ IDLE (R24). -/
def State.dbact (s : State) : Bool := s.fsm != .idle

/-- ERRC.V, which is STATUS.ERR (R24, R30). -/
def State.errV (s : State) : Bool := s.errc.getLsbD 7

/-- STATUS.HOLDW: FSM = DHOLD, CTRL.HOLD = 1 and ACKED = 0 (R24). -/
def State.holdw (s : State) : Bool := s.fsm == .dhold && s.hold && !s.acked

/-- The byte RDREG reads as STATUS: `0b000 ++ HOLDW ++ ERR ++ CHG ++ DBACT ++ BUSY` (R24, R104). -/
def State.status (s : State) : Byte :=
  0#3 ++ BitVec.ofBool s.holdw ++ BitVec.ofBool s.errV ++ BitVec.ofBool s.chg ++ BitVec.ofBool s.dbact ++
    BitVec.ofBool s.eng.busy

/-- IRQ = CHG and CTRL.CIE, computed and not stored (R36). -/
def State.irq (s : State) : Bool := s.chg && s.cie

/-- The 3-bit code of a cause (R106). -/
def causeCode : Cause → BitVec 3
  | .reservedOpcode => 1
  | .nonzeroMbz => 2
  | .reservedReg => 3

/-- The record of an illegal command: `1 ++ cause ++ op` (R30, R107). -/
def errcOf (c : Cause) (op : Nibble) : Byte := 1#1 ++ causeCode c ++ op

/-- The inputs that make their armed transition: a rise where EDGE is 0, a fall where EDGE is 1 (R27, R84). -/
def armedEdges (prev l edge : Nibble) : Nibble := (~~~prev &&& l &&& ~~~edge) ||| (prev &&& ~~~l &&& edge)

/-- Quiescent: engine idle, FSM = IDLE, and EN = 0 or nothing pending (R137). -/
def State.quiescent (s : State) : Bool := !s.eng.busy && s.fsm == .idle && (!s.en || s.pend == 0)

end Sys2Proof.Machine
end

