-- ==== Sys2Proof/Machine/Operands.lean ====
section
/-! DEFINITION. Every operand form: the segment ROM read of SHOW and DSTART (R42), the packed switch levels (R15, R80),
and the register a RDREG index names with the byte it reads (R44, R104). -/

namespace Sys2Proof.Machine

/-- SEG_TABLE: entries 0 and 15 are fixed, entries 1 to 14 are the open ones of the built HBGIO (R9, R37). -/
def segTable (p : Instance) (i : Nibble) : Byte :=
  if h0 : i.toNat = 0 then 0xFC
  else if h15 : i.toNat = 15 then 0x8F
  else p.segOpen[i.toNat - 1]'(by have := i.isLt; omega)

/-- MemRead(i, 1): the one byte at index i of the segment ROM (R42). -/
def memRead (s : State) (i : Nibble) : Byte := segTable s.inst i

/-- pack(L): bit i of the packed value is L[i], so the vector itself (R15, R80). -/
def pack (l : Nibble) : Nibble := l

/-- zext_8 of a 4-bit value (R14, R48). -/
def zext8 (v : Nibble) : Byte := v.zeroExtend 8

/-- The eight host-visible registers, in the order of their indices (R44). -/
inductive RegName where
  | ctrl
  | status
  | value
  | edge
  | pend
  | last
  | errc
  | dbst
  deriving DecidableEq, Repr

/-- The register an index names; indices 8 to 15 are reserved (R44). -/
def regName? (r : Nibble) : Option RegName :=
  match r.toNat with
  | 0 => some .ctrl
  | 1 => some .status
  | 2 => some .value
  | 3 => some .edge
  | 4 => some .pend
  | 5 => some .last
  | 6 => some .errc
  | 7 => some .dbst
  | _ => none

/-- The byte RDREG returns for a register (R104). -/
def regRead (s : State) : RegName → Byte
  | .ctrl => zext8 s.ctrl
  | .status => s.status
  | .value => zext8 s.value
  | .edge => zext8 s.edge
  | .pend => zext8 s.pend
  | .last => s.last
  | .errc => s.errc
  | .dbst => s.fsm.code.zeroExtend 8

end Sys2Proof.Machine
end

