-- ==== Sys2Proof/Machine/Ops.lean ====
section
/-! DEFINITION. The shared operations: the ports of a tick (R22, R38, R63), the illegal-command record (R107), the engine
load (R67), entering and leaving a sequence (R86, R92, R111, R112), the external shift register (R78), and reset (R120). -/

namespace Sys2Proof.Machine

/-- Apply a function to the next state, passing a stop on. -/
def mapNext (f : State → State) : Host.Outcome State Fault Refusal → Host.Outcome State Fault Refusal
  | .next s => .next (f s)
  | .fault r => .fault r
  | .refused r => .refused r

/-! ### The ports -/

/-- The input of the k-th coming tick, 0 the next one: as scripted, else a free draw of the levels with no command and no
RST. DESIGN CHOICE: past the script the host is silent (logs 1, 2). -/
def inputAt (s : State) (k : Nat) : TickInput :=
  s.script.getD k ⟨false, Config.freeLevels (s.ticks + k), none⟩

/-- The input of the next tick (R38). -/
def nextInput (s : State) : TickInput := inputAt s 0

/-- The ports take the next tick's input (R38). -/
def takeInput (s : State) : State :=
  { s with input := nextInput s, script := s.script.tail, ticks := s.ticks + 1 }

/-- CMD_ACCEPT, RSP_VALID and RSP of the tick (R63). -/
def reply (o : HostOut) (s : State) : State := { s with out := o }

/-- The word is taken with no response: (1, 0, 0x00) (R63). -/
def taken (s : State) : State := reply ⟨true, false, 0x00⟩ s

/-- The word is taken with a response byte: (1, 1, b) (R63). -/
def answer (b : Byte) (s : State) : State := reply ⟨true, true, b⟩ s

/-- The word stalls: (0, 0, 0x00) and no state is written (R56, R63). -/
def stall (s : State) : State := reply HostOut.none s

/-- No command is presented: (0, 0, 0x00) (R39, R63). -/
def noCommand (s : State) : State := reply HostOut.none s

/-! ### Errors -/

/-- `raise IllegalCommand(cause, op)`: the word is taken, and ERRC records it if it is the first (R107). -/
def illegalCommand (c : Cause) (op : Nibble) (s : State) : State :=
  taken { s with errc := if s.errV then s.errc else errcOf c op }

/-! ### The engine and its users -/

/-- EngineLoad(v): start a transfer; DATA and CLK do not change (R67). -/
def engineLoad (v : Byte) (s : State) : State := { s with eng := ⟨true, v, 0, .setup⟩ }

/-- A host transfer: it stalls while the engine is busy, else it is taken and loads the engine (R56, R63, R75). -/
def hostTransfer (v : Byte) (s : State) : State := if s.eng.busy then stall s else taken (engineLoad v s)

/-! ### The sequence: HBGIO's "trap entry" and "return" -/

/-- IDLE to WAIT: load the wait counter (R86, R111). -/
def enterSequence (s : State) : State := { s with dbcnt := s.inst.debounceTicks, fsm := .wait }

/-- The sampling tick: re-sample, recompute, flag the change (R87). -/
def sampleSwitches (s : State) : State :=
  { s with value := pack s.input.swIn, chg := true, acked := false, fsm := .dstart }

/-- CLEAR: clear all pending flags and return to IDLE (R92, R112). -/
def leaveSequence (s : State) : State := { s with pend := 0, fsm := .idle }

/-! ### The environment's shift register -/

/-- EXT_SR at the end of a tick: it shifts DATA into Q0 if CLK went from 0 to 1 in the tick (R78). PRESUMED: the shift
direction, the edge and the absence of a latch are general knowledge (G1; log 5). -/
def extShift (clkBefore : Bool) (s : State) : State :=
  if !clkBefore && s.clk then { s with extSr := s.extSr.extractLsb' 0 7 ++ BitVec.ofBool s.data } else s

/-- rev8(v): the bits of v in the opposite order (R79). -/
def rev8 (v : Byte) : Byte :=
  BitVec.ofBool (v.getLsbD 0) ++ BitVec.ofBool (v.getLsbD 1) ++ BitVec.ofBool (v.getLsbD 2) ++
    BitVec.ofBool (v.getLsbD 3) ++ BitVec.ofBool (v.getLsbD 4) ++ BitVec.ofBool (v.getLsbD 5) ++
    BitVec.ofBool (v.getLsbD 6) ++ BitVec.ofBool (v.getLsbD 7)

/-! ### Reset -/

/-- A tick with RST = 1: every HBGIO register takes its reset value and PREV the tick's levels; the segment ROM and
EXT_SR are not touched, and a presented word is not taken (R120, R121). DEDUCED: LAST takes 0x00 in every reset tick,
also in one that cuts a transfer short: R121's "LAST is not written" and D36's "LAST is unchanged" are read as "not written
with the byte of that transfer" (log 19). -/
def resetRegisters (s : State) : State :=
  { s with
    ctrl := 0x0, chg := false, value := 0x0, edge := 0x0, pend := 0x0, last := 0x00, errc := 0x00,
    prev := s.input.swIn, eng := Engine.reset, fsm := .idle, dbcnt := 0, acked := false,
    data := false, clk := false, out := HostOut.none }

end Sys2Proof.Machine
end

