-- ==== Sys2Proof/Machine/Debounce.lean ====
section
/-! DEFINITION. The edge-triggered input debouncer (42_edge_debounce.md): the edge detector and the sequencer, sub-steps 1
and 2 of the tick, and the commands WREDGE, ARM, CLRPEND and ACK. -/

namespace Sys2Proof.Machine

/-- EdgeDetect(L): armed transitions set PEND, then PREV takes the levels (R84). -/
def edgeDetect (s : State) : State :=
  { s with pend := s.pend ||| armedEdges s.prev s.input.swIn s.edge, prev := s.input.swIn }

/-- IDLE (R86). -/
def seqIdle (s : State) : State := if s.en && s.pend != 0 then enterSequence s else s

/-- WAIT (R87). -/
def seqWait (s : State) : State := if s.dbcnt = 0 then sampleSwitches s else { s with dbcnt := s.dbcnt - 1 }

/-- DSTART (R88). -/
def seqDstart (s : State) : State :=
  if !s.auto then { s with fsm := .dhold }
  else if !s.eng.busy then { engineLoad (memRead s s.value) s with fsm := .dshift }
  else s

/-- DSHIFT (R89). -/
def seqDshift (s : State) : State := if !s.eng.busy then { s with fsm := .dhold } else s

/-- DHOLD (R90). -/
def seqDhold (s : State) : State := if s.hold && !s.acked then s else { s with fsm := .arm }

/-- ARM, the sequencer's stage: EDGE takes the sampled levels (R91). -/
def seqArm (s : State) : State := { s with edge := s.value, fsm := .clear }

/-- SeqStep(L): the rule of the current stage (R86 to R92). -/
def seqStep (s : State) : State :=
  match s.fsm with
  | .idle => seqIdle s
  | .wait => seqWait s
  | .dstart => seqDstart s
  | .dshift => seqDshift s
  | .dhold => seqDhold s
  | .arm => seqArm s
  | .clear => leaveSequence s

/-- WREDGE imm4: write the edge-sense configuration (R98). -/
def execWredge (imm4 : Nibble) (s : State) : Host.Outcome State Fault Refusal := .next (taken { s with edge := imm4 })

/-- ARM: set each edge-sense bit to the level of this tick (R99). -/
def execArm (s : State) : Host.Outcome State Fault Refusal := .next (taken { s with edge := s.input.swIn })

/-- CLRPEND imm4: clear the pending flags the mask selects (R100). -/
def execClrpend (mask : Nibble) (s : State) : Host.Outcome State Fault Refusal :=
  .next (taken { s with pend := s.pend &&& ~~~mask })

/-- ACK: acknowledge a change (R101). -/
def execAck (s : State) : Host.Outcome State Fault Refusal := .next (taken { s with chg := false, acked := true })

end Sys2Proof.Machine
end

