-- ==== Sys2Proof/Machine/RegisterAccess.lean ====
section
/-! DEFINITION. The register access commands (43_register_access.md): NOP, RDREG and WRCTRL. -/

namespace Sys2Proof.Machine

/-- NOP: taken, and no state changes (R103). -/
def execNop (s : State) : Host.Outcome State Fault Refusal := .next (taken s)

/-- RDREG r: the register as it stands after sub-steps 1 and 2; a reserved index is the illegal command of cause 3
(R104; log 11). -/
def execRdreg (r : Nibble) (s : State) : Host.Outcome State Fault Refusal :=
  match regName? r with
  | some name => .next (answer (regRead s name) s)
  | none => .next (illegalCommand .reservedReg 0x4 s)

/-- WRCTRL imm4: write the control register (R105). -/
def execWrctrl (imm4 : Nibble) (s : State) : Host.Outcome State Fault Refusal := .next (taken { s with ctrl := imm4 })

end Sys2Proof.Machine
end

