-- ==== Sys2Proof/Machine/ShiftDriver.lean ====
section
/-! DEFINITION. The shift-register output driver (40_shift_driver.md): the engine step, sub-step 4 of the tick, and the
commands SHIFT and SHOW. -/

namespace Sys2Proof.Machine

/-- The engine moves to the next bit, or ends the transfer after bit 7 (R71). -/
def nextBit (e : Engine) : Engine :=
  if e.n = 7 then ⟨false, e.sh, 0, .setup⟩ else ⟨e.busy, e.sh, e.n + 1, .setup⟩

/-- EngineStep(): SETUP puts the bit on DATA, HIGH raises CLK, LOW lowers it and moves on (R68 to R71). -/
def engineStep (s : State) : State :=
  if s.eng.busy then
    match s.eng.phase with
    | .setup => { s with data := s.eng.sh.getLsbD s.eng.n.toNat, eng := { s.eng with phase := .high } }
    | .high => { s with clk := true, eng := { s.eng with phase := .low } }
    | .low => { s with clk := false, last := if s.eng.n = 7 then s.eng.sh else s.last, eng := nextBit s.eng }
  else s

/-- SHIFT imm8: transfer a byte (R76). -/
def execShift (imm8 : Byte) (s : State) : Host.Outcome State Fault Refusal := .next (hostTransfer imm8 s)

/-- SHOW imm4: transfer the segment pattern of a 4-bit value (R77). -/
def execShowSeg (imm4 : Nibble) (s : State) : Host.Outcome State Fault Refusal :=
  .next (hostTransfer (memRead s imm4) s)

end Sys2Proof.Machine
end

