-- ==== Sys2Proof/Machine/SwitchReader.lean ====
section
/-! DEFINITION. The switch reader (41_switch_reader.md): RDSW. -/

namespace Sys2Proof.Machine

/-- RDSW: the packed levels of this tick, zero-extended; no state is written (R83). -/
def execRdsw (s : State) : Host.Outcome State Fault Refusal := .next (answer (zext8 (pack s.input.swIn)) s)

end Sys2Proof.Machine
end

