-- ==== Sys2Proof/Machine/Dispatch.lean ====
section
/-! DEFINITION. The meaning of each command in sub-step 3 of the tick, one arm per constructor (R63). -/

namespace Sys2Proof.Machine

def exec (i : Instr) (s : State) : Host.Outcome State Fault Refusal :=
  match i with
  | .nop => Sys2Proof.Machine.execNop s
  | .shift imm8 => Sys2Proof.Machine.execShift imm8 s
  | .showSeg imm4 => Sys2Proof.Machine.execShowSeg imm4 s
  | .rdsw => Sys2Proof.Machine.execRdsw s
  | .rdreg r => Sys2Proof.Machine.execRdreg r s
  | .wrctrl imm4 => Sys2Proof.Machine.execWrctrl imm4 s
  | .wredge imm4 => Sys2Proof.Machine.execWredge imm4 s
  | .arm => Sys2Proof.Machine.execArm s
  | .clrpend mask => Sys2Proof.Machine.execClrpend mask s
  | .ack => Sys2Proof.Machine.execAck s

end Sys2Proof.Machine
end

