-- ==== Sys2Proof/Machine/Tick.lean ====
section
/-! DEFINITION. The parts of a tick around the command (R39): what the tick presents, sub-steps 1 and 2, and sub-step 4
with the environment's shift register. -/

namespace Sys2Proof.Machine

/-- What the next tick is: a reset, no command, or a word as decoded (R38, R39, R120). -/
inductive Presented where
  | reset
  | none
  | word (d : Decoded)
  deriving DecidableEq, Repr

/-- What an input presents: RST overrides a command (R110, R120). -/
def presents (i : TickInput) : Presented :=
  if i.rst then .reset
  else match i.cmd with
    | .none => .none
    | .some w => .word (decode w)

/-- Sub-steps 1 and 2, on the tick's input (R39). -/
def beforeCommand (s : State) : State := seqStep (edgeDetect (takeInput s))

/-- Sub-step 4, and at the end of the tick the external shift register (R39, R78). Only the engine step writes CLK
(R35), so CLK before it is CLK before the tick. -/
def endTick (s : State) : State := extShift s.clk (engineStep s)

/-- The whole of a tick with RST = 1 (R120). -/
def resetTick (s : State) : State := resetRegisters (takeInput s)

end Sys2Proof.Machine
end

