-- ==== Sys2Proof/Machine/Step.lean ====
section
/-! DEFINITION. One step is one tick of HBGIO (R39, R120). -/

namespace Sys2Proof.Machine

/-- One tick (R39): reset, or the sub-steps in order with the command of the tick in sub-step 3 (R63). -/
def step (s : State) : Host.Outcome State Fault Refusal :=
  match presents (nextInput s) with
  | .reset => .next (resetTick s)
  | .none => .next (endTick (noCommand (beforeCommand s)))
  | .word (.illegal c op) => .next (endTick (illegalCommand c op (beforeCommand s)))
  | .word (.legal i) => mapNext endTick (exec i (beforeCommand s))

/-- The host presents this word in the next tick, with RST = 0 and the levels as they would be; HBGIO fetches nothing
(R21, R56; log 3). -/
def State.withFetchWord (s : State) (nbits w : Nat) : State :=
  { s with
    script := ⟨false, (nextInput s).swIn, some (BitVec.ofNat 16 (w % 2 ^ nbits))⟩ :: s.script.tail }

end Sys2Proof.Machine
end

