-- ==== Sys2Proof/Machine/HostRun.lean ====
section
/-! DEFINITION. Runs: consecutive ticks, a host program and the end of its run (R138), the boot procedure (R123), the mode
map (R102) and the pseudo-commands (R66). The machine does not depend on this file. -/

namespace Sys2Proof.Machine

/-- `k` ticks, stopping at the first stop (there is none, R63). -/
def runTicks : Nat → State → Host.Outcome State Fault Refusal
  | 0, s => .next s
  | k + 1, s =>
    match step s with
    | .next t => runTicks k t
    | .fault r => .fault r
    | .refused r => .refused r

/-- The states at the end of each of the next `k` ticks. -/
def trace : Nat → State → List State
  | 0, _ => []
  | k + 1, s =>
    match step s with
    | .next t => t :: trace k t
    | .fault _ => []
    | .refused _ => []

/-- The same coming tick with RST = 0 and this on the command port; the levels and all later inputs are as they were. -/
def State.presenting (s : State) (c : Option Word) : State :=
  { s with script := ⟨false, (nextInput s).swIn, c⟩ :: s.script.tail }

/-- DATA at each rising edge of CLK in the next `k` ticks, in order (R73, R78). -/
def bitsClocked (k : Nat) (s : State) : List Bool :=
  (((s :: trace k s).zip (trace k s)).filter (fun p => !p.1.clk && p.2.clk)).map (fun p => p.2.data)

/-- One word of a host program, presented from tick `start` on, until it is taken (R138; start ticks as in
95_test_vectors.md section 3; log 15). -/
structure HostWord where
  start : Nat
  word : Word
  deriving DecidableEq, Repr

/-- A host program's run between two ticks: the machine, the words not yet taken, the number of the next tick, and the
(tick, RSP) pairs so far (R138). -/
structure HostRun where
  state : State
  program : List HostWord
  tick : Nat
  responses : List (Nat × Byte)
  deriving DecidableEq, Repr

/-- The host's own outcome of a tick. -/
abbrev RunOutcome := Host.Outcome HostRun Fault Refusal

/-- A list of words presented from tick 0 on (R138). -/
def plainProgram (ws : List Word) : List HostWord := ws.map (fun w => ⟨0, w⟩)

/-- The start of a run (R138): a start state and a program, at tick 0. -/
def startRun (s : State) (program : List HostWord) : HostRun := ⟨s, program, 0, []⟩

/-- The word the host presents in the next tick. -/
def HostRun.presented (r : HostRun) : Option Word :=
  match r.program with
  | [] => none
  | h :: _ => if h.start ≤ r.tick then some h.word else none

/-- The machine's state with the input of the run's next tick: the environment's draw `l` and the host's word. -/
def HostRun.withInput (l : Nibble) (r : HostRun) : State := { r.state with script := [⟨false, l, r.presented⟩] }

/-- One tick of a run with the environment's draw `l`: a word is dropped from the program when it is taken, and kept to be
presented again when it stalls (R56, R138). -/
def hostTick (l : Nibble) (r : HostRun) : RunOutcome :=
  match step (r.withInput l) with
  | .next t => .next
      { state := t
        program := if t.out.accept then r.program.tail else r.program
        tick := r.tick + 1
        responses := if t.out.rspValid then r.responses ++ [(r.tick, t.out.rsp)] else r.responses }
  | .fault e => .fault e
  | .refused e => .refused e

/-- The condition of the end of a run: every word taken, and quiescent (R138). -/
def HostRun.ended (r : HostRun) : Bool := r.program.isEmpty && r.state.quiescent

/-- Run to the end of the first tick that satisfies the end condition; `none` if these draws do not reach one (R138). -/
def runToEnd : List Nibble → HostRun → Option HostRun
  | [], _ => none
  | l :: ls, r =>
    match hostTick l r with
    | .next r' => if r'.ended then some r' else runToEnd ls r'
    | .fault _ => none
    | .refused _ => none

/-! ### Pseudo-commands (R66) -/

/-- CLEAR = SHIFT 0x00. -/
def pseudoClear : Instr := .shift 0x00

/-- CLRALL = CLRPEND 0xF. -/
def pseudoClrall : Instr := .clrpend 0xF

/-- RDSTATUS = RDREG STATUS. -/
def pseudoRdstatus : Instr := .rdreg 0x1

/-- DISABLE = WRCTRL 0. -/
def pseudoDisable : Instr := .wrctrl 0x0

/-! ### The source's dispatcher as a host of HBGIO -/

/-- The CTRL value the host writes for a game mode (R102). -/
def modeCtrl (mode : Nibble) : Nibble :=
  match mode.toNat with
  | 1 => 0xF
  | 2 => 0x1
  | _ => 0x3

/-- The words of the boot procedure before the mode is known: the chase `n` times, CLEAR, RDSW (R123 steps 2 to 4;
log 18). -/
def bootWordsBeforeMode (chase : List Byte) : Nat → List Word
  | 0 => [encode pseudoClear, encode .rdsw]
  | n + 1 => chase.map (fun p => encode (.shift p)) ++ bootWordsBeforeMode chase n

/-- The words after it: ARM, CLRALL, WRCTRL per the mode RDSW returned (R123 steps 5 to 7). -/
def bootWordsAfterMode (mode : Nibble) : List Word :=
  [encode .arm, encode pseudoClrall, encode (.wrctrl (modeCtrl mode))]

/-- The whole program of the boot procedure (R123). -/
def bootProgram (chase : List Byte) (n : Nat) (mode : Nibble) : List Word :=
  bootWordsBeforeMode chase n ++ bootWordsAfterMode mode

end Sys2Proof.Machine
end

