-- ==== Sys2Proof/Safety.lean ====
section
/-! DEFINITION. What counts as a sound state and a fault-free run: the invariants the spec's ranges and derived sentences
state (R34, R69, R71, R72, R89, R106), and the premise ERRC.V = 0 of claims about a host program's run (R107). -/

namespace Sys2Proof.Machine

/-- No illegal command has been recorded: the premise a claim about a host program's run takes (R107). -/
def State.faultFree (s : State) : Bool := !s.errV

/-- ERRC is empty, or the record of one of the three causes with an opcode that can raise it (R30, R106). -/
def errcLegal (e : Byte) : Bool :=
  e == 0 ||
    (e.getLsbD 7 &&
      ((e.extractLsb' 4 3 == 1 && decide (0xA ≤ e.extractLsb' 0 4)) ||
        (e.extractLsb' 4 3 == 2 && decide (e.extractLsb' 0 4 < 0xA)) ||
        (e.extractLsb' 4 3 == 3 && e.extractLsb' 0 4 == 4)))

/-- The stages after the sampling tick. -/
def Fsm.sampled : Fsm → Bool
  | .idle => false
  | .wait => false
  | .dstart => true
  | .dshift => true
  | .dhold => true
  | .arm => true
  | .clear => true

/-- What holds at the end of every tick. -/
structure Inv (s : State) : Prop where
  /-- CLK is 1 exactly between the HIGH and the LOW step of a bit (R69 to R72). -/
  clkShape : s.clk = (s.eng.busy && s.eng.phase == .low)
  /-- An idle engine rests at bit 0, SETUP (R67, R71). -/
  idleShape : s.eng.busy = false → s.eng.n = 0 ∧ s.eng.phase = .setup
  /-- The SETUP step of bit 0 runs in the load tick itself (R67, R72). -/
  setupShape : s.eng.busy = true → s.eng.phase = .setup → s.eng.n ≠ 0
  /-- After a bit's SETUP step DATA holds that bit (R69, R72). -/
  dataShape : s.eng.busy = true → s.eng.phase ≠ .setup → s.data = s.eng.sh.getLsbD s.eng.n.toNat
  /-- DBCNT is 0 to DEBOUNCE_TICKS (R34). -/
  dbcntBound : s.dbcnt ≤ s.inst.debounceTicks
  /-- DBCNT is 0 outside WAIT (R86, R87). -/
  dbcntRest : s.fsm ≠ .wait → s.dbcnt = 0
  /-- In DSHIFT the running transfer is the sequencer's own (R88, R89). -/
  dshiftOwn : s.fsm = .dshift → s.eng.busy = true → s.eng.sh = memRead s s.value
  /-- In DSHIFT with the engine idle, the sequencer's own transfer has completed (R89). -/
  dshiftDone : s.fsm = .dshift → s.eng.busy = false → s.last = memRead s s.value
  /-- A change is never both flagged and acknowledged (R87, R101). -/
  chgAcked : (s.chg && s.acked) = false
  /-- After the sampling tick the change is flagged or acknowledged, to the end of the sequence (R87, R101). -/
  sampledChg : s.fsm.sampled = true → (s.chg || s.acked) = true
  /-- ERRC holds nothing or a record of R106. -/
  errcShape : errcLegal s.errc = true
  /-- PREV holds the levels of the last tick (R32). -/
  prevLevels : s.prev = s.input.swIn
  /-- RSP is 0x00 without RSP_VALID, and a response comes only with a taken word (R22, R63). -/
  outShape : (s.out.rspValid = false → s.out.rsp = 0) ∧ (s.out.rspValid = true → s.out.accept = true)

/-- The next tick finds a flag pending at sub-step 2: one is pending before it, or an input makes its armed transition in
it (R84, R86). -/
def FlagInNextTick (s : State) : Prop :=
  ∃ k, k < 4 ∧
    (s.pend.getLsbD k = true ∨
      (s.prev.getLsbD k = false ∧ (nextInput s).swIn.getLsbD k = true ∧ s.edge.getLsbD k = false) ∨
      (s.prev.getLsbD k = true ∧ (nextInput s).swIn.getLsbD k = false ∧ s.edge.getLsbD k = true))

/-- Coming tick `j` presents a legal SHIFT or SHOW. -/
def TransferAt (j : Nat) (s : State) : Prop :=
  (∃ v, presents (inputAt s j) = .word (.legal (.shift v))) ∨
  ∃ v, presents (inputAt s j) = .word (.legal (.showSeg v))

/-- No RST in the next `k` ticks. -/
def NoReset (k : Nat) (s : State) : Prop := ∀ j, j < k → (inputAt s j).rst = false

/-- No WRCTRL in the next `k` ticks. -/
def NoWrctrl (k : Nat) (s : State) : Prop :=
  ∀ j, j < k → ∀ m, presents (inputAt s j) ≠ .word (.legal (.wrctrl m))

/-- No command of the host is an ACK in the next `k` ticks. -/
def NoAck (k : Nat) (s : State) : Prop := ∀ j, j < k → presents (inputAt s j) ≠ .word (.legal .ack)

/-- No WREDGE and no ARM in coming tick `j`. -/
def NoEdgeWriteAt (j : Nat) (s : State) : Prop :=
  presents (inputAt s j) ≠ .word (.legal .arm) ∧ ∀ m, presents (inputAt s j) ≠ .word (.legal (.wredge m))

end Sys2Proof.Machine
end

