-- ==== Sys2Proof/Certificates/Slice0/Obligations.lean ====
section
/-! DEFINITION. The statements for the provers. A statement about a tick is about every state and every input the state's
script and the free draws can give; every parameter the spec leaves open is quantified with the state (R19). -/

open Sys2Proof Sys2Proof.Machine

/-! ### The tick -/

/-- When the word the host presents decodes to a command, the tick runs exec of that command between sub-steps 1, 2 and
sub-step 4 (R39, R63). -/
def Obligations.StepRunsDecodedCommand : Prop :=
  ∀ (s : State) (w : Word) (i : Instr),
    (nextInput s).rst = false → (nextInput s).cmd = some w → decode w = .legal i →
      step s = mapNext endTick (exec i (beforeCommand s))

/-- The sub-steps of a tick in the order of R39: edge detector, sequencer, command, engine, IRQ; RST replaces them all.
After the engine the environment's EXT_SR follows CLK (R78), by general knowledge that log 5 marks PRESUMED. -/
def Obligations.TickRunsSubStepsInOrder : Prop :=
  ∀ s : State,
    ((nextInput s).rst = true → step s = .next (resetRegisters (takeInput s))) ∧
    ((nextInput s).rst = false →
      ∃ m t, step s = .next t ∧ t = extShift s.clk (engineStep m) ∧ t.irq = (t.chg && t.ctrl.getLsbD 3) ∧
        ((nextInput s).cmd = none →
          m = { seqStep (edgeDetect (takeInput s)) with out := ⟨false, false, 0x00⟩ }) ∧
        (∀ w i, (nextInput s).cmd = some w → decode w = .legal i →
          exec i (seqStep (edgeDetect (takeInput s))) = .next m) ∧
        (∀ w c op, (nextInput s).cmd = some w → decode w = .illegal c op →
          m = illegalCommand c op (seqStep (edgeDetect (takeInput s)))))

/-- Every command in every state, and every tick, answers a next state: nothing traps and nothing stops (R63, R107, R114). -/
def Obligations.EveryTickAnswersNext : Prop :=
  (∀ (i : Instr) (s : State), ∃ t, exec i s = .next t) ∧ ∀ s : State, ∃ t, step s = .next t

/-! ### Encoding -/

/-- Words written out from the encoding strings of R59 and the opcode map of R61 decode to their commands. -/
def Obligations.SampleWordsDecode : Prop :=
  decode 0b0000000000000000 = .legal .nop ∧
  decode 0b0001000011111100 = .legal (.shift 0xFC) ∧
  decode 0b0010000000001111 = .legal (.showSeg 15) ∧
  decode 0b0011000000000000 = .legal .rdsw ∧
  decode 0b0100010100000000 = .legal (.rdreg 5) ∧
  decode 0b0101000000001011 = .legal (.wrctrl 0b1011) ∧
  decode 0b0110000000000101 = .legal (.wredge 0b0101) ∧
  decode 0b0111000000000000 = .legal .arm ∧
  decode 0b1000000000000010 = .legal (.clrpend 0b0010) ∧
  decode 0b1001000000000000 = .legal .ack

/-- A word is a legal command exactly when a row of the opcode map matches it under its mask and, for RDREG, r ≤ 7; the
command is the row's (R61). -/
def Obligations.DecodeMatchesOpcodeMap : Prop :=
  ∀ w : Word,
    (∀ i, decode w = .legal i → w &&& i.row.mask = i.row.matchBits ∧ i.row ∈ opcodeMap ∧
      (i.row.matchBits = 0x4000 → w.extractLsb' 8 4 ≤ 7#4)) ∧
    (∀ row ∈ opcodeMap, w &&& row.mask = row.matchBits → (row.matchBits = 0x4000 → w.extractLsb' 8 4 ≤ 7#4) →
      ∃ i, decode w = .legal i ∧ i.row = row)

/-- The cause of an illegal word: reserved opcode, else reserved register, else a must-be-zero bit of the format of the
opcode (R59, R62, R106). -/
def Obligations.IllegalCausesInPriorityOrder : Prop :=
  ∀ (w : Word) (c : Cause) (o : Nibble),
    decode w = .illegal c o ↔
      o = w.extractLsb' 12 4 ∧
        match c with
        | .reservedOpcode => 0xA ≤ o
        | .reservedReg => o = 0x4 ∧ 8 ≤ w.extractLsb' 8 4
        | .nonzeroMbz =>
          ((o = 0x0 ∨ o = 0x3 ∨ o = 0x7 ∨ o = 0x9) ∧ w &&& 0x0FFF ≠ 0) ∨
          (o = 0x1 ∧ w &&& 0x0F00 ≠ 0) ∨
          ((o = 0x2 ∨ o = 0x5 ∨ o = 0x6 ∨ o = 0x8) ∧ w &&& 0x0FF0 ≠ 0) ∨
          (o = 0x4 ∧ w.extractLsb' 8 4 < 8 ∧ w &&& 0x00FF ≠ 0)

/-- Decoding the word of a well-formed command gives the command back, with every operand (R59 to R61). -/
def Obligations.DecodeOfEncode : Prop := ∀ i : Instr, i.wellFormed = true → decode (encode i) = .legal i

/-- Every legal word is the encoding of the command it decodes to, and that command is well-formed (R59 to R61). -/
def Obligations.EncodeOfDecode : Prop :=
  ∀ (w : Word) (i : Instr), decode w = .legal i → encode i = w ∧ i.wellFormed = true

/-! ### The commands: result, completion and frame in one equation -/

/-- NOP is taken and changes no state (R103). -/
def Obligations.NopOnlyTaken : Prop := ∀ s : State, exec .nop s = .next { s with out := ⟨true, false, 0x00⟩ }

/-- SHIFT with the engine free loads the byte and nothing else (R76, R67). -/
def Obligations.ShiftLoadsFreeEngine : Prop :=
  ∀ (v : Byte) (s : State), s.eng.busy = false →
    exec (.shift v) s = .next { s with eng := ⟨true, v, 0, .setup⟩, out := ⟨true, false, 0x00⟩ }

/-- SHOW with the engine free loads the segment pattern of its index and nothing else (R77, R67); patterns 0 and 15 are
0xFC and 0x8F (R9, R42), and patterns 1 to 14 are the open ones. That open entry k stands at position k - 1 of the vector
in State is the model's own layout (logs 4, 9). -/
def Obligations.ShowLoadsSegmentPattern : Prop :=
  (∀ (k : Nibble) (s : State), s.eng.busy = false →
    exec (.showSeg k) s = .next { s with eng := ⟨true, memRead s k, 0, .setup⟩, out := ⟨true, false, 0x00⟩ }) ∧
  ∀ s : State, memRead s 0 = 0xFC ∧ memRead s 15 = 0x8F ∧
    ∀ (k : Nibble) (h : 1 ≤ k.toNat ∧ k.toNat ≤ 14), memRead s k = s.inst.segOpen[k.toNat - 1]'(Nat.sub_one_lt_of_le h.1 h.2)

/-- SHIFT and SHOW with the engine busy stall: not taken, no state written (R56). -/
def Obligations.TransferStallsWhileBusy : Prop :=
  ∀ s : State, s.eng.busy = true →
    (∀ v, exec (.shift v) s = .next { s with out := ⟨false, false, 0x00⟩ }) ∧
    ∀ k, exec (.showSeg k) s = .next { s with out := ⟨false, false, 0x00⟩ }

/-- RDSW answers the packed levels of this tick, zero-extended, and writes no state (R83, R80). -/
def Obligations.RdswAnswersLevels : Prop :=
  ∀ s : State,
    exec .rdsw s = .next { s with out := ⟨true, true, 0#4 ++ s.input.swIn⟩ } ∧
    (0#4 ++ s.input.swIn : Byte).toNat =
      (s.input.swIn.getLsbD 0).toNat * 1 + (s.input.swIn.getLsbD 1).toNat * 2 +
        (s.input.swIn.getLsbD 2).toNat * 4 + (s.input.swIn.getLsbD 3).toNat * 8

/-- RDREG of each defined index answers that register's byte and writes no state (R104, R24, R31). -/
def Obligations.RdregAnswersRegister : Prop :=
  ∀ s : State,
    exec (.rdreg 0) s = .next { s with out := ⟨true, true, 0#4 ++ s.ctrl⟩ } ∧
    exec (.rdreg 1) s = .next { s with out := ⟨true, true,
      0#3 ++ BitVec.ofBool (decide (s.fsm = .dhold) && s.ctrl.getLsbD 2 && !s.acked) ++
        BitVec.ofBool (s.errc.getLsbD 7) ++ BitVec.ofBool s.chg ++ BitVec.ofBool (decide (s.fsm ≠ .idle)) ++
        BitVec.ofBool s.eng.busy⟩ } ∧
    exec (.rdreg 2) s = .next { s with out := ⟨true, true, 0#4 ++ s.value⟩ } ∧
    exec (.rdreg 3) s = .next { s with out := ⟨true, true, 0#4 ++ s.edge⟩ } ∧
    exec (.rdreg 4) s = .next { s with out := ⟨true, true, 0#4 ++ s.pend⟩ } ∧
    exec (.rdreg 5) s = .next { s with out := ⟨true, true, s.last⟩ } ∧
    exec (.rdreg 6) s = .next { s with out := ⟨true, true, s.errc⟩ } ∧
    exec (.rdreg 7) s = .next { s with out := ⟨true, true,
      match s.fsm with
      | .idle => 0
      | .wait => 1
      | .dstart => 2
      | .dshift => 3
      | .dhold => 4
      | .arm => 5
      | .clear => 6⟩ }

/-- RDREG of a reserved index is taken, answers nothing, and is recorded with cause 3 if it is the first illegal command
(R104, R106, R107). That exec takes the reserved operands at all is the model's reading (log 11). -/
def Obligations.RdregReservedIndexRecorded : Prop :=
  ∀ (r : Nibble) (s : State), 8 ≤ r →
    exec (.rdreg r) s =
      .next { s with errc := if s.errc.getLsbD 7 then s.errc else 0xB4, out := ⟨true, false, 0x00⟩ }

/-- WRCTRL writes CTRL and nothing else (R105). -/
def Obligations.WrctrlWritesCtrl : Prop :=
  ∀ (m : Nibble) (s : State), exec (.wrctrl m) s = .next { s with ctrl := m, out := ⟨true, false, 0x00⟩ }

/-- WREDGE writes EDGE and nothing else (R98). -/
def Obligations.WredgeWritesEdge : Prop :=
  ∀ (m : Nibble) (s : State), exec (.wredge m) s = .next { s with edge := m, out := ⟨true, false, 0x00⟩ }

/-- ARM sets EDGE to the levels of its own tick, not to VALUE, and nothing else (R99). -/
def Obligations.ArmSetsEdgeToLevels : Prop :=
  ∀ s : State, exec .arm s = .next { s with edge := s.input.swIn, out := ⟨true, false, 0x00⟩ }

/-- CLRPEND clears exactly the flags its mask selects, and nothing else (R100). -/
def Obligations.ClrpendClearsSelectedFlags : Prop :=
  ∀ (m : Nibble) (s : State), ∃ p : Nibble,
    exec (.clrpend m) s = .next { s with pend := p, out := ⟨true, false, 0x00⟩ } ∧
    ∀ k, k < 4 → p.getLsbD k = (s.pend.getLsbD k && !m.getLsbD k)

/-- ACK clears CHG and sets ACKED, and nothing else; IRQ and HOLDW are then 0 (R101). -/
def Obligations.AckClearsChange : Prop :=
  ∀ s : State, ∃ t,
    exec .ack s = .next t ∧ t = { s with chg := false, acked := true, out := ⟨true, false, 0x00⟩ } ∧
    t.irq = false ∧ t.holdw = false

/-- The frame of all commands at once: each register has only the writers the spec names, and the segment ROM none. -/
def Obligations.CommandFrame : Prop :=
  ∀ (i : Instr) (s : State), ∃ t, exec i s = .next t ∧
    t.value = s.value ∧ t.last = s.last ∧ t.prev = s.prev ∧ t.fsm = s.fsm ∧ t.dbcnt = s.dbcnt ∧
    t.data = s.data ∧ t.clk = s.clk ∧ t.inst = s.inst ∧ t.extSr = s.extSr ∧ t.input = s.input ∧
    t.script = s.script ∧ t.ticks = s.ticks ∧
    (∀ a, memRead t a = memRead s a) ∧
    ((∀ m, i ≠ .wrctrl m) → t.ctrl = s.ctrl) ∧
    (i ≠ .arm → (∀ m, i ≠ .wredge m) → t.edge = s.edge) ∧
    ((∀ m, i ≠ .clrpend m) → t.pend = s.pend) ∧
    (i ≠ .ack → t.chg = s.chg ∧ t.acked = s.acked) ∧
    ((∀ v, i ≠ .shift v) → (∀ v, i ≠ .showSeg v) → t.eng = s.eng) ∧
    (i.wellFormed = true → t.errc = s.errc) ∧
    (∀ k, k < 4 → t.pend.getLsbD k = true → s.pend.getLsbD k = true)

/-! ### Which command ticks differ from which -/

/-- A tick with NOP differs from the same tick with no command only in CMD_ACCEPT (R103). -/
def Obligations.NopTickDiffersOnlyInAccept : Prop :=
  ∀ s : State, ∃ t u,
    step (s.presenting (some 0x0000)) = .next t ∧ step (s.presenting none) = .next u ∧
    u.out = ⟨false, false, 0x00⟩ ∧ t = { u with out := ⟨true, false, 0x00⟩, input := t.input }

/-- RDSW and RDREG are taken with a response and have no other effect than the same tick with no command (R50). -/
def Obligations.ReadsHaveNoSideEffect : Prop :=
  ∀ (s : State) (w : Word), (decode w = .legal .rdsw ∨ ∃ r, decode w = .legal (.rdreg r)) → ∃ t u,
    step (s.presenting (some w)) = .next t ∧ step (s.presenting none) = .next u ∧
    t.out.accept = true ∧ t.out.rspValid = true ∧ t = { u with out := t.out, input := t.input }

/-- A presented word stalls exactly when it is a legal SHIFT or SHOW and the engine is busy at sub-step 3, and then the
tick is the tick with no command (R56). -/
def Obligations.OnlyBusyTransferWordsStall : Prop :=
  ∀ (s : State) (w : Word), ∃ t,
    step (s.presenting (some w)) = .next t ∧
    (t.out.accept = false ↔
      ((∃ v, decode w = .legal (.shift v)) ∨ ∃ v, decode w = .legal (.showSeg v)) ∧
        (beforeCommand (s.presenting (some w))).eng.busy = true) ∧
    (t.out.accept = false → ∃ u, step (s.presenting none) = .next u ∧ t = { u with input := t.input })

/-- An illegal word is taken without a response; it writes ERRC if V = 0, and the tick is otherwise the tick with no
command. ERRC.V, seen as STATUS.ERR, stays 1 in every tick without RST (R107). -/
def Obligations.IllegalWordOnlyRecorded : Prop :=
  (∀ (s : State) (w : Word) (c : Cause) (o : Nibble), decode w = .illegal c o → ∃ t u,
    step (s.presenting (some w)) = .next t ∧ step (s.presenting none) = .next u ∧
    t = { u with
      errc := if s.errc.getLsbD 7 then s.errc else
        1#1 ++ (match c with | .reservedOpcode => 1#3 | .nonzeroMbz => 2#3 | .reservedReg => 3#3) ++ o
      out := ⟨true, false, 0x00⟩
      input := t.input }) ∧
  (∀ s : State, (regRead s .status).getLsbD 3 = s.errc.getLsbD 7) ∧
  ∀ s : State, s.errc.getLsbD 7 = true → (nextInput s).rst = false →
    ∃ t, step s = .next t ∧ t.errc = s.errc

/-- Once ERRC.V is 1, ERRC keeps its record through any number of ticks without RST (R107). -/
def Obligations.FirstErrorRecordIsKept : Prop :=
  ∀ (k : Nat) (s : State), s.errc.getLsbD 7 = true → NoReset k s →
    ∃ t, runTicks k s = .next t ∧ t.errc = s.errc

/-! ### Each register's next value, over every tick -/

/-- CTRL: only WRCTRL and reset write it (R23). -/
def Obligations.CtrlNextValue : Prop :=
  ∀ s : State, ∃ t, step s = .next t ∧
    match presents (nextInput s) with
    | .reset => t.ctrl = 0
    | .word (.legal (.wrctrl m)) => t.ctrl = m
    | _ => t.ctrl = s.ctrl

/-- VALUE: only the sampling tick writes it, with the levels of that tick; reset clears it, and RDREG 2 reads it
zero-extended (R26). -/
def Obligations.ValueNextValue : Prop :=
  State.reset.value = 0 ∧ (∀ s : State, regRead s .value = 0#4 ++ s.value) ∧
  ∀ s : State, ∃ t, step s = .next t ∧
    ((nextInput s).rst = true → t.value = 0) ∧
    ((nextInput s).rst = false →
      t.value = if s.fsm = .wait ∧ s.dbcnt = 0 then (nextInput s).swIn else s.value)

/-- CHG: set in the sampling tick; cleared only by ACK and reset (R25). -/
def Obligations.ChgNextValue : Prop :=
  State.reset.chg = false ∧
  ∀ s : State, ∃ t, step s = .next t ∧
    match presents (nextInput s) with
    | .reset => t.chg = false
    | .word (.legal .ack) => t.chg = false
    | _ => t.chg = (s.chg || (decide (s.fsm = .wait) && decide (s.dbcnt = 0)))

/-- EDGE: the host's WREDGE and ARM win over the sequencer's ARM stage, which writes VALUE; nothing else writes it
(R27, R40, R91). -/
def Obligations.EdgeNextValue : Prop :=
  State.reset.edge = 0 ∧ (∀ s : State, regRead s .edge = 0#4 ++ s.edge) ∧
  ∀ s : State, ∃ t, step s = .next t ∧
    match presents (nextInput s) with
    | .reset => t.edge = 0
    | .word (.legal (.wredge m)) => t.edge = m
    | .word (.legal .arm) => t.edge = (nextInput s).swIn
    | _ => t.edge = if s.fsm = .arm then s.value else s.edge

/-- PEND, bit by bit: an armed transition sets it whatever CTRL holds, CLEAR clears all, CLRPEND clears the selected, and
a clear wins over an edge of the same tick; reset clears it, and RDREG 4 reads it zero-extended
(R28, R40, R84, R92, R100). -/
def Obligations.PendNextValue : Prop :=
  State.reset.pend = 0 ∧ (∀ s : State, regRead s .pend = 0#4 ++ s.pend) ∧
  ∀ s : State, ∃ t, step s = .next t ∧ ∀ k, k < 4 →
    let old := s.prev.getLsbD k
    let new := (nextInput s).swIn.getLsbD k
    let armed := (!old && new && !s.edge.getLsbD k) || (old && !new && s.edge.getLsbD k)
    let seen := (s.pend.getLsbD k || armed) && !decide (s.fsm = .clear)
    match presents (nextInput s) with
    | .reset => t.pend.getLsbD k = false
    | .word (.legal (.clrpend m)) => t.pend.getLsbD k = (seen && !m.getLsbD k)
    | _ => t.pend.getLsbD k = seen

/-- LAST: written only in the tick a transfer completes, with the transfer's byte, and by reset with 0x00; a transfer cut
short by reset does not write its byte (R29, R120). That reset clears LAST then too is the model's reading of R121
(log 19). -/
def Obligations.LastNextValue : Prop :=
  State.reset.last = 0 ∧ (∀ s : State, regRead s .last = s.last) ∧
  ∀ s : State, ∃ t, step s = .next t ∧
    ((nextInput s).rst = true → t.last = 0) ∧
    ((nextInput s).rst = false →
      t.last = if s.eng.busy = true ∧ s.eng.phase = .low ∧ s.eng.n = 7 then s.eng.sh else s.last)

/-! ### The shift engine -/

/-- The engine step: nothing while idle; SETUP, HIGH and LOW as R69, R70 and R71 say, and no other register changes. -/
def Obligations.EngineStepRules : Prop :=
  ∀ s : State,
    (s.eng.busy = false → engineStep s = s) ∧
    (s.eng.busy = true → s.eng.phase = .setup →
      engineStep s = { s with data := s.eng.sh.getLsbD s.eng.n.toNat, eng := { s.eng with phase := .high } }) ∧
    (s.eng.busy = true → s.eng.phase = .high →
      engineStep s = { s with clk := true, eng := { s.eng with phase := .low } }) ∧
    (s.eng.busy = true → s.eng.phase = .low → s.eng.n.toNat ≠ 7 → ∃ n' : BitVec 3, n'.toNat = s.eng.n.toNat + 1 ∧
      engineStep s = { s with clk := false, eng := { s.eng with n := n', phase := .setup } }) ∧
    (s.eng.busy = true → s.eng.phase = .low → s.eng.n.toNat = 7 →
      engineStep s = { s with
        clk := false, last := s.eng.sh, eng := { s.eng with busy := false, n := 0, phase := .setup } })

/-- The byte of a transfer is the byte of the SHIFT or SHOW taken in its load tick, or the pattern of VALUE loaded by
DSTART with AUTO = 1 (R67, R75, R76, R77, R88). -/
def Obligations.TransferByteHasOneOfThreeSources : Prop :=
  ∀ s t : State, step s = .next t → s.eng.busy = false → t.eng.busy = true →
    (∃ v, presents (nextInput s) = .word (.legal (.shift v)) ∧ t.out.accept = true ∧ t.eng.sh = v) ∨
    (∃ k, presents (nextInput s) = .word (.legal (.showSeg k)) ∧ t.out.accept = true ∧ t.eng.sh = memRead s k) ∨
    (s.fsm = .dstart ∧ s.ctrl.getLsbD 1 = true ∧ t.fsm = .dshift ∧ t.eng.sh = memRead s s.value)

/-- The timing table of a transfer: in the tick k ticks after its load tick, DATA is bit k / 3, CLK is 1 exactly in the
middle tick of a bit, the engine is busy until the 24th tick, and LAST takes the byte then (R72, R74). -/
def Obligations.TransferFollowsTimingTable : Prop :=
  ∀ s s0 : State, s.clk = false → s.eng.busy = false → step s = .next s0 → s0.eng.busy = true → NoReset 23 s0 →
    ∀ k, k ≤ 23 → ∃ t, runTicks k s0 = .next t ∧
      t.data = s0.eng.sh.getLsbD (k / 3) ∧ t.clk = decide (k % 3 = 1) ∧
      (k < 23 → t.eng.busy = true ∧ t.last = s.last) ∧
      (k = 23 → t.eng.busy = false ∧ t.last = s0.eng.sh)

/-- A transfer makes exactly 8 rising edges of CLK, with the bits of its byte on DATA, bit 0 first; between transfers CLK
makes no edge (R73, R45). -/
def Obligations.TransferClocksEightBitsLsbFirst : Prop :=
  (∀ s s0 : State, s.clk = false → s.eng.busy = false → step s = .next s0 → s0.eng.busy = true → NoReset 23 s0 →
    bitsClocked 24 s = (List.range 8).map (fun k => s0.eng.sh.getLsbD k)) ∧
  ∀ s : State, Inv s → s.eng.busy = false → ∃ t, step s = .next t ∧ s.clk = false ∧ t.clk = false

/-- After a complete transfer EXT_SR holds the byte with its bits in the opposite order, whatever it held before (R79).
It rests on the shift direction of R78, which is general knowledge (log 5). -/
def Obligations.ShiftRegisterHoldsReversedByte : Prop :=
  ∀ s s0 : State, s.clk = false → s.eng.busy = false → step s = .next s0 → s0.eng.busy = true → NoReset 23 s0 →
    ∃ t, runTicks 23 s0 = .next t ∧ ∀ k, k < 8 → t.extSr.getLsbD k = s0.eng.sh.getLsbD (7 - k)

/-- DATA changes only in ticks where CLK is 0 at the start and at the end (R72). -/
def Obligations.DataChangesOnlyWhileClockLow : Prop :=
  ∀ s : State, Inv s → (nextInput s).rst = false → ∃ t, step s = .next t ∧
    (t.data ≠ s.data → s.clk = false ∧ t.clk = false)

/-- A host that presents a SHIFT or a SHOW in every tick, the same or another each time, has one taken within 48 ticks,
whatever the sequencer does (R75). -/
def Obligations.HostTransferNeverStarved : Prop :=
  ∀ s : State, Inv s → (∀ j, j < 48 → TransferAt j s) →
    ∃ j t, j < 48 ∧ runTicks (j + 1) s = .next t ∧ t.out.accept = true

/-- A DSTART that waits for the engine loads the pattern of VALUE in the tick after the running transfer's last tick, ahead
of any word the host presents, and so within 24 ticks of any state (R75, R88). -/
def Obligations.SequencerTransferNeverStarved : Prop :=
  (∀ s : State, s.fsm = .dstart → s.ctrl.getLsbD 1 = true → s.eng.busy = true → s.eng.phase = .low → s.eng.n = 7 →
    NoReset 2 s → NoWrctrl 1 s →
    (∃ t, runTicks 1 s = .next t ∧ t.fsm = .dstart ∧ t.eng.busy = false ∧ t.last = s.eng.sh) ∧
    ∃ t, runTicks 2 s = .next t ∧ t.fsm = .dshift ∧ t.eng.busy = true ∧ t.eng.sh = memRead s s.value) ∧
  ∀ s : State, Inv s → s.fsm = .dstart → s.ctrl.getLsbD 1 = true → NoReset 24 s → NoWrctrl 24 s →
    ∃ j t, j < 24 ∧ runTicks (j + 1) s = .next t ∧ t.fsm = .dshift ∧ t.eng.busy = true ∧
      t.eng.sh = memRead s s.value

/-- EXT_SR in every tick: where CLK goes from 0 to 1 it takes DATA into Q0 and each other output takes the one below it;
in every other tick, reset ticks among them, it is unchanged (R78, R121). The direction and the edge are general knowledge,
PRESUMED (log 5). -/
def Obligations.ExternalRegisterNextValue : Prop :=
  ∀ s : State, ∃ t, step s = .next t ∧
    (s.clk = false → t.clk = true →
      ∀ k, k < 8 → t.extSr.getLsbD k = if k = 0 then t.data else s.extSr.getLsbD (k - 1)) ∧
    (s.clk = true ∨ t.clk = false → t.extSr = s.extSr)

/-- EXT_SR influences nothing of HBGIO: two states that differ in it only tick to states that differ in it only (R74). -/
def Obligations.ExternalRegisterIsInvisible : Prop :=
  ∀ (s : State) (x : Byte), ∃ t u, step s = .next t ∧ step { s with extSr := x } = .next u ∧
    u = { t with extSr := u.extSr }

/-! ### The edge detector and the sequencer -/

/-- The edge detector's truth table, per input, and its frame (R84). -/
def Obligations.EdgeDetectorTruthTable : Prop :=
  ∀ s : State,
    edgeDetect s = { s with pend := (edgeDetect s).pend, prev := s.input.swIn } ∧
    ∀ k, k < 4 →
      (edgeDetect s).pend.getLsbD k =
        match s.prev.getLsbD k, s.input.swIn.getLsbD k, s.edge.getLsbD k with
        | false, true, false => true
        | true, false, true => true
        | false, false, _ => s.pend.getLsbD k
        | true, true, _ => s.pend.getLsbD k
        | false, true, true => s.pend.getLsbD k
        | true, false, false => s.pend.getLsbD k

/-- The rule of each sequencer stage, with its frame (R86 to R92). -/
def Obligations.SequencerStageRules : Prop :=
  ∀ s : State,
    (s.fsm = .idle → seqStep s =
      if s.ctrl.getLsbD 0 = true ∧ s.pend ≠ 0 then { s with dbcnt := s.inst.debounceTicks, fsm := .wait } else s) ∧
    (s.fsm = .wait → s.dbcnt = 0 →
      seqStep s = { s with value := s.input.swIn, chg := true, acked := false, fsm := .dstart }) ∧
    (s.fsm = .wait → s.dbcnt ≠ 0 →
      ∃ c : BitVec 16, c.toNat = s.dbcnt.toNat - 1 ∧ seqStep s = { s with dbcnt := c }) ∧
    (s.fsm = .dstart → s.ctrl.getLsbD 1 = false → seqStep s = { s with fsm := .dhold }) ∧
    (s.fsm = .dstart → s.ctrl.getLsbD 1 = true → s.eng.busy = false →
      seqStep s = { s with eng := ⟨true, memRead s s.value, 0, .setup⟩, fsm := .dshift }) ∧
    (s.fsm = .dstart → s.ctrl.getLsbD 1 = true → s.eng.busy = true → seqStep s = s) ∧
    (s.fsm = .dshift → seqStep s = if s.eng.busy = true then s else { s with fsm := .dhold }) ∧
    (s.fsm = .dhold → seqStep s =
      if s.ctrl.getLsbD 2 = true ∧ s.acked = false then s else { s with fsm := .arm }) ∧
    (s.fsm = .arm → seqStep s = { s with edge := s.value, fsm := .clear }) ∧
    (s.fsm = .clear → seqStep s = { s with pend := 0, fsm := .idle })

/-- Sequences run through their stages in order, never nest, and end only through CLEAR (R97). -/
def Obligations.SequencesNeverNest : Prop :=
  ∀ s : State, ∃ t, step s = .next t ∧ ((nextInput s).rst = false →
    match s.fsm with
    | .idle => t.fsm = .idle ∨ t.fsm = .wait
    | .wait => t.fsm = .wait ∨ t.fsm = .dstart
    | .dstart => t.fsm = .dstart ∨ t.fsm = .dshift ∨ t.fsm = .dhold
    | .dshift => t.fsm = .dshift ∨ t.fsm = .dhold
    | .dhold => t.fsm = .dhold ∨ t.fsm = .arm
    | .arm => t.fsm = .clear
    | .clear => t.fsm = .idle)

/-- From the trigger tick, in which a flag is pending before it or set by an edge in it, the sampling tick comes
DEBOUNCE_TICKS + 1 ticks later and VALUE takes its levels, whatever AUTO and HOLD are and whatever the host writes
(R86, R87, R93, R97). -/
def Obligations.TriggerToSamplingTiming : Prop :=
  ∀ s : State, s.fsm = .idle → s.ctrl.getLsbD 0 = true → FlagInNextTick s →
    NoReset (s.inst.debounceTicks.toNat + 2) s →
    (∀ j, j ≤ s.inst.debounceTicks.toNat → ∃ t, runTicks (j + 1) s = .next t ∧ t.fsm = .wait ∧
      t.dbcnt.toNat = s.inst.debounceTicks.toNat - j ∧ t.value = s.value ∧
      (s.chg = false → t.chg = false)) ∧
    ∃ t, runTicks (s.inst.debounceTicks.toNat + 2) s = .next t ∧ t.fsm = .dstart ∧
      t.value = (inputAt s (s.inst.debounceTicks.toNat + 1)).swIn ∧
      (presents (inputAt s (s.inst.debounceTicks.toNat + 1)) ≠ .word (.legal .ack) → t.chg = true ∧ t.acked = false)

/-- A sequence with AUTO = 0 and HOLD = 0, triggered by a flag pending before the tick or by an edge in it: the sampling
tick is DEBOUNCE_TICKS + 1 ticks after the trigger tick and the
CLEAR tick DEBOUNCE_TICKS + 5 ticks after it; VALUE is the levels of the sampling tick, and EDGE equals it at the end if
the host wrote no EDGE in the ARM and CLEAR ticks (R87, R93, R94). -/
def Obligations.PlainSequenceTiming : Prop :=
  ∀ s : State, s.fsm = .idle → s.ctrl.getLsbD 0 = true → s.ctrl.getLsbD 1 = false → s.ctrl.getLsbD 2 = false →
    FlagInNextTick s → NoReset (s.inst.debounceTicks.toNat + 6) s → NoWrctrl (s.inst.debounceTicks.toNat + 6) s →
    (∃ t, runTicks (s.inst.debounceTicks.toNat + 1) s = .next t ∧ t.fsm = .wait ∧ t.value = s.value) ∧
    (∃ t, runTicks (s.inst.debounceTicks.toNat + 2) s = .next t ∧ t.fsm = .dstart ∧
      t.value = (inputAt s (s.inst.debounceTicks.toNat + 1)).swIn) ∧
    (∃ t, runTicks (s.inst.debounceTicks.toNat + 5) s = .next t ∧ t.fsm = .clear) ∧
    (∃ t, runTicks (s.inst.debounceTicks.toNat + 6) s = .next t ∧ t.fsm = .idle ∧ t.pend = 0 ∧
      t.value = (inputAt s (s.inst.debounceTicks.toNat + 1)).swIn ∧
      (NoEdgeWriteAt (s.inst.debounceTicks.toNat + 4) s → NoEdgeWriteAt (s.inst.debounceTicks.toNat + 5) s →
        t.edge = t.value))

/-- A sequence's redisplay with AUTO = 1, HOLD = 0 and the engine free at DSTART: the CLEAR tick is 28 ticks after the
sampling tick, and LAST is then the segment pattern of VALUE (R88, R89, R93). -/
def Obligations.RedisplaySequenceTiming : Prop :=
  ∀ s : State, s.fsm = .dstart → s.ctrl.getLsbD 1 = true → s.ctrl.getLsbD 2 = false → s.eng.busy = false →
    NoReset 28 s → NoWrctrl 28 s →
    (∃ t, runTicks 27 s = .next t ∧ t.fsm = .clear) ∧
    ∃ t, runTicks 28 s = .next t ∧ t.fsm = .idle ∧ t.pend = 0 ∧ t.value = s.value ∧
      t.last = memRead s s.value

/-- With HOLD = 1 and no ACK the sequencer stays in DHOLD for any number of ticks, with HOLDW = 1, and samples nothing
(R90, R133). -/
def Obligations.HoldWaitsForAck : Prop :=
  ∀ (k : Nat) (s : State), s.fsm = .dhold → s.ctrl.getLsbD 2 = true → s.acked = false →
    NoReset k s → NoWrctrl k s → NoAck k s →
    ∃ t, runTicks k s = .next t ∧ t.fsm = .dhold ∧ t.holdw = true ∧ t.value = s.value

/-- An ACK taken in DHOLD clears CHG and IRQ in its own tick and releases the sequencer in the next (R101, R136). -/
def Obligations.AckReleasesHold : Prop :=
  ∀ s : State, s.fsm = .dhold → s.ctrl.getLsbD 2 = true → s.acked = false →
    presents (inputAt s 0) = .word (.legal .ack) → (inputAt s 1).rst = false →
    (∃ t, runTicks 1 s = .next t ∧ t.fsm = .dhold ∧ t.chg = false ∧ t.acked = true ∧ t.irq = false) ∧
    ∃ t, runTicks 2 s = .next t ∧ t.fsm = .arm

/-- At the end of the CLEAR tick EDGE = VALUE, PEND = 0 and FSM = IDLE, if the host took no WREDGE and no ARM in the ARM
and CLEAR ticks (R94). -/
def Obligations.ClearTickPostcondition : Prop :=
  ∀ s : State, s.fsm = .arm → NoReset 2 s → NoEdgeWriteAt 0 s → NoEdgeWriteAt 1 s →
    ∃ t, runTicks 2 s = .next t ∧ t.edge = t.value ∧ t.value = s.value ∧ t.pend = 0 ∧ t.fsm = .idle

/-- An input armed for the transition toward its present level sets no flag at its next change (R125). -/
def Obligations.EdgeTowardPresentLevelSetsNoFlag : Prop :=
  ∀ (s : State) (k : Nat), k < 4 → s.prev.getLsbD k ≠ s.edge.getLsbD k → ∃ t, step s = .next t ∧
    (t.pend.getLsbD k = true → s.pend.getLsbD k = true)

/-- A WRCTRL that sets EN while a flag is pending starts nothing in its own tick and a sequence in the next, with the wait
counter loaded (R86, R105, R126). -/
def Obligations.EnablingStartsSequenceNextTick : Prop :=
  ∀ (s : State) (m : Nibble), s.fsm = .idle → s.ctrl.getLsbD 0 = false → s.pend ≠ 0 →
    presents (inputAt s 0) = .word (.legal (.wrctrl m)) → m.getLsbD 0 = true → (inputAt s 1).rst = false →
    (∃ t, runTicks 1 s = .next t ∧ t.fsm = .idle ∧ t.ctrl = m) ∧
    ∃ t, runTicks 2 s = .next t ∧ t.fsm = .wait ∧ t.dbcnt = s.inst.debounceTicks

/-- IRQ is a level: it stays 1 until ACK, a WRCTRL that clears CIE, or reset (R36). -/
def Obligations.IrqStaysUntilAcknowledged : Prop :=
  State.reset.irq = false ∧
  ∀ s : State, (s.irq = (s.chg && s.ctrl.getLsbD 3)) ∧ (s.irq = true → ∃ t, step s = .next t ∧
    match presents (nextInput s) with
    | .reset => t.irq = false
    | .word (.legal .ack) => t.irq = false
    | .word (.legal (.wrctrl m)) => t.irq = m.getLsbD 3
    | _ => t.irq = true)

/-! ### Reset, memory and quiescence -/

/-- A tick with RST = 1 gives every register its reset value and PREV the tick's levels, does not take a word, and touches
neither the segment ROM nor EXT_SR; STATUS reads 0x00 and IRQ is 0 (R120). -/
def Obligations.ResetTickGivesResetValues : Prop :=
  ∀ s : State, (nextInput s).rst = true → ∃ t, step s = .next t ∧
    t.ctrl = 0 ∧ t.chg = false ∧ t.value = 0 ∧ t.edge = 0 ∧ t.pend = 0 ∧ t.last = 0 ∧ t.errc = 0 ∧
    t.prev = (nextInput s).swIn ∧ t.eng = ⟨false, 0x00, 0, .setup⟩ ∧ t.fsm = .idle ∧ t.dbcnt = 0 ∧
    t.acked = false ∧ t.data = false ∧ t.clk = false ∧ t.out = ⟨false, false, 0x00⟩ ∧
    t.inst = s.inst ∧ t.extSr = s.extSr ∧ t.status = 0x00 ∧ regRead t .dbst = 0x00 ∧ t.irq = false

/-- The reset state has the reset value of every register, and no edge follows it while the switches keep the levels of
the reset tick (R120, R32). -/
def Obligations.ResetStateIsQuiet : Prop :=
  (State.reset.ctrl = 0 ∧ State.reset.chg = false ∧ State.reset.value = 0 ∧ State.reset.edge = 0 ∧
    State.reset.pend = 0 ∧ State.reset.last = 0 ∧ State.reset.errc = 0 ∧
    State.reset.eng = ⟨false, 0x00, 0, .setup⟩ ∧ State.reset.fsm = .idle ∧ State.reset.dbcnt = 0 ∧
    State.reset.acked = false ∧ State.reset.data = false ∧ State.reset.clk = false ∧
    State.reset.quiescent = true) ∧
  ∀ s : State, (inputAt s 0).rst = true → (inputAt s 1).rst = false → (inputAt s 1).swIn = (inputAt s 0).swIn →
    ∃ t, runTicks 2 s = .next t ∧ t.pend = 0

/-- No command, sequencer stage or reset writes the segment ROM: every entry reads as before after any tick (R43). -/
def Obligations.SegmentRomNeverWritten : Prop :=
  ∀ s : State, ∃ t, step s = .next t ∧ ∀ a, memRead t a = memRead s a

/-- From a quiescent state a tick with no command and steady levels changes no register (R137). -/
def Obligations.QuiescentStateIsFixedPoint : Prop :=
  ∀ s : State, s.eng.busy = false → s.fsm = .idle → (s.ctrl.getLsbD 0 = false ∨ s.pend = 0) →
    nextInput s = ⟨false, s.prev, none⟩ →
    s.quiescent = true ∧
    step s = .next { s with
      input := ⟨false, s.prev, none⟩, script := s.script.tail, ticks := s.ticks + 1, out := ⟨false, false, 0x00⟩ }

/-! ### The invariant -/

/-- The invariant of the reachable states holds at reset. That PREV and the SW_IN port hold the same draw there is the
model's choice (log 7). -/
def Obligations.InvariantAtReset : Prop := Inv State.reset

/-- Every tick from a state with the invariant ends in a state with it: CLK and DATA follow the engine's phase, DBCNT stays
in its range, DSHIFT's transfer is the sequencer's own, a sampled change is flagged or acknowledged and never both, and
ERRC holds nothing or a record of R106 (R30, R32, R34, R69, R72, R87, R89, R101, R106). -/
def Obligations.StepKeepsInvariant : Prop :=
  ∀ s : State, Inv s → ∃ t, step s = .next t ∧ Inv t
end

