-- ==== Sys2Proof/Laws/Encoding.lean ====
section
/-! SUPPORT. What each encoding format holds, field by field (R59, R60), and what the must-be-zero check of each format
sees. -/

namespace Sys2Proof

theorem extract_append_high {m n : Nat} (a : BitVec m) (b : BitVec n) :
    (a ++ b).extractLsb' n m = a := by
  ext j hj
  simp [BitVec.getLsbD_append, BitVec.getLsbD_eq_getElem hj]

theorem extract_append_low {m n : Nat} (a : BitVec m) (b : BitVec n) :
    (a ++ b).extractLsb' 0 n = b := by
  ext j hj
  simp [BitVec.getLsbD_append, hj]

/-- A field that lies in the low part of an append. -/
theorem extract_append_of_low {m n : Nat} (a : BitVec m) (b : BitVec n) (lo k : Nat) (h : lo + k ≤ n) :
    (a ++ b).extractLsb' lo k = b.extractLsb' lo k := by
  ext j hj
  simp [BitVec.getLsbD_append, show lo + j < n by omega]

/-- A field that lies in the high part of an append. -/
theorem extract_append_of_high {m n : Nat} (a : BitVec m) (b : BitVec n) (lo k : Nat) :
    (a ++ b).extractLsb' (n + lo) k = a.extractLsb' lo k := by
  ext j hj
  simp [BitVec.getLsbD_append, show n + lo + j - n = lo + j by omega, show ¬n + lo + j < n by omega]

theorem extract_zero {n : Nat} (lo k : Nat) : (0#n).extractLsb' lo k = 0#k := by
  ext j hj
  simp

/-! ### Format Z -/

@[simp] theorem opField_wordZ (op : Nibble) : opField (wordZ op) = op := extract_append_high op 0#12

@[simp] theorem mbzClear_wordZ (op : Nibble) : mbzClear (wordZ op) .z = true := by
  have h : (wordZ op).extractLsb' 0 12 = 0#12 := extract_append_low op 0#12
  simp [mbzClear, h]

/-! ### Format I8 -/

@[simp] theorem opField_wordI8 (op : Nibble) (v : Byte) : opField (wordI8 op v) = op :=
  (extract_append_of_high (op ++ 0#4) v 4 4).trans (extract_append_high op 0#4)

@[simp] theorem imm8Field_wordI8 (op : Nibble) (v : Byte) : imm8Field (wordI8 op v) = v :=
  extract_append_low (op ++ 0#4) v

@[simp] theorem mbzClear_wordI8 (op : Nibble) (v : Byte) : mbzClear (wordI8 op v) .i8 = true := by
  have h : (wordI8 op v).extractLsb' 8 4 = 0#4 :=
    (extract_append_of_high (op ++ 0#4) v 0 4).trans (extract_append_low op 0#4)
  simp [mbzClear, h]

/-! ### Format I4 -/

@[simp] theorem opField_wordI4 (op m : Nibble) : opField (wordI4 op m) = op :=
  (extract_append_of_high (op ++ 0#8) m 8 4).trans (extract_append_high op 0#8)

@[simp] theorem imm4Field_wordI4 (op m : Nibble) : imm4Field (wordI4 op m) = m :=
  extract_append_low (op ++ 0#8) m

@[simp] theorem mbzClear_wordI4 (op m : Nibble) : mbzClear (wordI4 op m) .i4 = true := by
  have h : (wordI4 op m).extractLsb' 4 8 = 0#8 :=
    (extract_append_of_high (op ++ 0#8) m 0 8).trans (extract_append_low op 0#8)
  simp [mbzClear, h]

/-! ### Format R -/

@[simp] theorem opField_wordR (op r : Nibble) : opField (wordR op r) = op :=
  (extract_append_of_high (op ++ r) 0#8 4 4).trans (extract_append_high op r)

@[simp] theorem regField_wordR (op r : Nibble) : regField (wordR op r) = r :=
  (extract_append_of_high (op ++ r) 0#8 0 4).trans (extract_append_low op r)

@[simp] theorem mbzClear_wordR (op r : Nibble) : mbzClear (wordR op r) .r = true := by
  have h : (wordR op r).extractLsb' 0 8 = 0#8 := extract_append_low (op ++ r) 0#8
  simp [mbzClear, h]

/-! ### The check of the must-be-zero bits -/

theorem checkMbz_clear (w : Word) (f : Format) (i : Instr) (h : mbzClear w f = true) :
    checkMbz w f i = .legal i := by
  simp [checkMbz, h]

theorem checkMbz_set (w : Word) (f : Format) (i : Instr) (h : mbzClear w f = false) :
    checkMbz w f i = .illegal .nonzeroMbz (opField w) := by
  simp [checkMbz, h]

end Sys2Proof
end

