-- ==== Sys2Proof/Laws/State.lean ====
section
/-! SUPPORT. One lemma per field per state update: what each shared update leaves in each field of State, so that no later
proof unfolds a record update. -/

namespace Sys2Proof.Machine

variable (s : State)

/-! ### takeInput: The ports take the next input (R38). -/

@[simp] theorem takeInput_ctrl : (takeInput s).ctrl = s.ctrl := rfl
@[simp] theorem takeInput_chg : (takeInput s).chg = s.chg := rfl
@[simp] theorem takeInput_value : (takeInput s).value = s.value := rfl
@[simp] theorem takeInput_edge : (takeInput s).edge = s.edge := rfl
@[simp] theorem takeInput_pend : (takeInput s).pend = s.pend := rfl
@[simp] theorem takeInput_last : (takeInput s).last = s.last := rfl
@[simp] theorem takeInput_errc : (takeInput s).errc = s.errc := rfl
@[simp] theorem takeInput_prev : (takeInput s).prev = s.prev := rfl
@[simp] theorem takeInput_eng : (takeInput s).eng = s.eng := rfl
@[simp] theorem takeInput_fsm : (takeInput s).fsm = s.fsm := rfl
@[simp] theorem takeInput_dbcnt : (takeInput s).dbcnt = s.dbcnt := rfl
@[simp] theorem takeInput_acked : (takeInput s).acked = s.acked := rfl
@[simp] theorem takeInput_data : (takeInput s).data = s.data := rfl
@[simp] theorem takeInput_clk : (takeInput s).clk = s.clk := rfl
@[simp] theorem takeInput_inst : (takeInput s).inst = s.inst := rfl
@[simp] theorem takeInput_extSr : (takeInput s).extSr = s.extSr := rfl
@[simp] theorem takeInput_input : (takeInput s).input = nextInput s := rfl
@[simp] theorem takeInput_out : (takeInput s).out = s.out := rfl
@[simp] theorem takeInput_script : (takeInput s).script = s.script.tail := rfl
@[simp] theorem takeInput_ticks : (takeInput s).ticks = s.ticks + 1 := rfl

/-! ### reply: The reply of a tick (R63). -/

@[simp] theorem reply_ctrl (o : HostOut) : (reply o s).ctrl = s.ctrl := rfl
@[simp] theorem reply_chg (o : HostOut) : (reply o s).chg = s.chg := rfl
@[simp] theorem reply_value (o : HostOut) : (reply o s).value = s.value := rfl
@[simp] theorem reply_edge (o : HostOut) : (reply o s).edge = s.edge := rfl
@[simp] theorem reply_pend (o : HostOut) : (reply o s).pend = s.pend := rfl
@[simp] theorem reply_last (o : HostOut) : (reply o s).last = s.last := rfl
@[simp] theorem reply_errc (o : HostOut) : (reply o s).errc = s.errc := rfl
@[simp] theorem reply_prev (o : HostOut) : (reply o s).prev = s.prev := rfl
@[simp] theorem reply_eng (o : HostOut) : (reply o s).eng = s.eng := rfl
@[simp] theorem reply_fsm (o : HostOut) : (reply o s).fsm = s.fsm := rfl
@[simp] theorem reply_dbcnt (o : HostOut) : (reply o s).dbcnt = s.dbcnt := rfl
@[simp] theorem reply_acked (o : HostOut) : (reply o s).acked = s.acked := rfl
@[simp] theorem reply_data (o : HostOut) : (reply o s).data = s.data := rfl
@[simp] theorem reply_clk (o : HostOut) : (reply o s).clk = s.clk := rfl
@[simp] theorem reply_inst (o : HostOut) : (reply o s).inst = s.inst := rfl
@[simp] theorem reply_extSr (o : HostOut) : (reply o s).extSr = s.extSr := rfl
@[simp] theorem reply_input (o : HostOut) : (reply o s).input = s.input := rfl
@[simp] theorem reply_out (o : HostOut) : (reply o s).out = o := rfl
@[simp] theorem reply_script (o : HostOut) : (reply o s).script = s.script := rfl
@[simp] theorem reply_ticks (o : HostOut) : (reply o s).ticks = s.ticks := rfl

/-! ### illegalCommand: The illegal-command record (R107). -/

@[simp] theorem illegalCommand_ctrl (c : Cause) (op : Nibble) : (illegalCommand c op s).ctrl = s.ctrl := rfl
@[simp] theorem illegalCommand_chg (c : Cause) (op : Nibble) : (illegalCommand c op s).chg = s.chg := rfl
@[simp] theorem illegalCommand_value (c : Cause) (op : Nibble) : (illegalCommand c op s).value = s.value := rfl
@[simp] theorem illegalCommand_edge (c : Cause) (op : Nibble) : (illegalCommand c op s).edge = s.edge := rfl
@[simp] theorem illegalCommand_pend (c : Cause) (op : Nibble) : (illegalCommand c op s).pend = s.pend := rfl
@[simp] theorem illegalCommand_last (c : Cause) (op : Nibble) : (illegalCommand c op s).last = s.last := rfl
@[simp] theorem illegalCommand_errc (c : Cause) (op : Nibble) : (illegalCommand c op s).errc = if s.errV then s.errc else errcOf c op := rfl
@[simp] theorem illegalCommand_prev (c : Cause) (op : Nibble) : (illegalCommand c op s).prev = s.prev := rfl
@[simp] theorem illegalCommand_eng (c : Cause) (op : Nibble) : (illegalCommand c op s).eng = s.eng := rfl
@[simp] theorem illegalCommand_fsm (c : Cause) (op : Nibble) : (illegalCommand c op s).fsm = s.fsm := rfl
@[simp] theorem illegalCommand_dbcnt (c : Cause) (op : Nibble) : (illegalCommand c op s).dbcnt = s.dbcnt := rfl
@[simp] theorem illegalCommand_acked (c : Cause) (op : Nibble) : (illegalCommand c op s).acked = s.acked := rfl
@[simp] theorem illegalCommand_data (c : Cause) (op : Nibble) : (illegalCommand c op s).data = s.data := rfl
@[simp] theorem illegalCommand_clk (c : Cause) (op : Nibble) : (illegalCommand c op s).clk = s.clk := rfl
@[simp] theorem illegalCommand_inst (c : Cause) (op : Nibble) : (illegalCommand c op s).inst = s.inst := rfl
@[simp] theorem illegalCommand_extSr (c : Cause) (op : Nibble) : (illegalCommand c op s).extSr = s.extSr := rfl
@[simp] theorem illegalCommand_input (c : Cause) (op : Nibble) : (illegalCommand c op s).input = s.input := rfl
@[simp] theorem illegalCommand_out (c : Cause) (op : Nibble) : (illegalCommand c op s).out = ⟨true, false, 0x00⟩ := rfl
@[simp] theorem illegalCommand_script (c : Cause) (op : Nibble) : (illegalCommand c op s).script = s.script := rfl
@[simp] theorem illegalCommand_ticks (c : Cause) (op : Nibble) : (illegalCommand c op s).ticks = s.ticks := rfl

/-! ### engineLoad: EngineLoad (R67). -/

@[simp] theorem engineLoad_ctrl (v : Byte) : (engineLoad v s).ctrl = s.ctrl := rfl
@[simp] theorem engineLoad_chg (v : Byte) : (engineLoad v s).chg = s.chg := rfl
@[simp] theorem engineLoad_value (v : Byte) : (engineLoad v s).value = s.value := rfl
@[simp] theorem engineLoad_edge (v : Byte) : (engineLoad v s).edge = s.edge := rfl
@[simp] theorem engineLoad_pend (v : Byte) : (engineLoad v s).pend = s.pend := rfl
@[simp] theorem engineLoad_last (v : Byte) : (engineLoad v s).last = s.last := rfl
@[simp] theorem engineLoad_errc (v : Byte) : (engineLoad v s).errc = s.errc := rfl
@[simp] theorem engineLoad_prev (v : Byte) : (engineLoad v s).prev = s.prev := rfl
@[simp] theorem engineLoad_eng (v : Byte) : (engineLoad v s).eng = ⟨true, v, 0, .setup⟩ := rfl
@[simp] theorem engineLoad_fsm (v : Byte) : (engineLoad v s).fsm = s.fsm := rfl
@[simp] theorem engineLoad_dbcnt (v : Byte) : (engineLoad v s).dbcnt = s.dbcnt := rfl
@[simp] theorem engineLoad_acked (v : Byte) : (engineLoad v s).acked = s.acked := rfl
@[simp] theorem engineLoad_data (v : Byte) : (engineLoad v s).data = s.data := rfl
@[simp] theorem engineLoad_clk (v : Byte) : (engineLoad v s).clk = s.clk := rfl
@[simp] theorem engineLoad_inst (v : Byte) : (engineLoad v s).inst = s.inst := rfl
@[simp] theorem engineLoad_extSr (v : Byte) : (engineLoad v s).extSr = s.extSr := rfl
@[simp] theorem engineLoad_input (v : Byte) : (engineLoad v s).input = s.input := rfl
@[simp] theorem engineLoad_out (v : Byte) : (engineLoad v s).out = s.out := rfl
@[simp] theorem engineLoad_script (v : Byte) : (engineLoad v s).script = s.script := rfl
@[simp] theorem engineLoad_ticks (v : Byte) : (engineLoad v s).ticks = s.ticks := rfl

/-! ### edgeDetect: The edge detector (R84). -/

@[simp] theorem edgeDetect_ctrl : (edgeDetect s).ctrl = s.ctrl := rfl
@[simp] theorem edgeDetect_chg : (edgeDetect s).chg = s.chg := rfl
@[simp] theorem edgeDetect_value : (edgeDetect s).value = s.value := rfl
@[simp] theorem edgeDetect_edge : (edgeDetect s).edge = s.edge := rfl
@[simp] theorem edgeDetect_pend : (edgeDetect s).pend = s.pend ||| armedEdges s.prev s.input.swIn s.edge := rfl
@[simp] theorem edgeDetect_last : (edgeDetect s).last = s.last := rfl
@[simp] theorem edgeDetect_errc : (edgeDetect s).errc = s.errc := rfl
@[simp] theorem edgeDetect_prev : (edgeDetect s).prev = s.input.swIn := rfl
@[simp] theorem edgeDetect_eng : (edgeDetect s).eng = s.eng := rfl
@[simp] theorem edgeDetect_fsm : (edgeDetect s).fsm = s.fsm := rfl
@[simp] theorem edgeDetect_dbcnt : (edgeDetect s).dbcnt = s.dbcnt := rfl
@[simp] theorem edgeDetect_acked : (edgeDetect s).acked = s.acked := rfl
@[simp] theorem edgeDetect_data : (edgeDetect s).data = s.data := rfl
@[simp] theorem edgeDetect_clk : (edgeDetect s).clk = s.clk := rfl
@[simp] theorem edgeDetect_inst : (edgeDetect s).inst = s.inst := rfl
@[simp] theorem edgeDetect_extSr : (edgeDetect s).extSr = s.extSr := rfl
@[simp] theorem edgeDetect_input : (edgeDetect s).input = s.input := rfl
@[simp] theorem edgeDetect_out : (edgeDetect s).out = s.out := rfl
@[simp] theorem edgeDetect_script : (edgeDetect s).script = s.script := rfl
@[simp] theorem edgeDetect_ticks : (edgeDetect s).ticks = s.ticks := rfl

/-! ### enterSequence: IDLE to WAIT (R86). -/

@[simp] theorem enterSequence_ctrl : (enterSequence s).ctrl = s.ctrl := rfl
@[simp] theorem enterSequence_chg : (enterSequence s).chg = s.chg := rfl
@[simp] theorem enterSequence_value : (enterSequence s).value = s.value := rfl
@[simp] theorem enterSequence_edge : (enterSequence s).edge = s.edge := rfl
@[simp] theorem enterSequence_pend : (enterSequence s).pend = s.pend := rfl
@[simp] theorem enterSequence_last : (enterSequence s).last = s.last := rfl
@[simp] theorem enterSequence_errc : (enterSequence s).errc = s.errc := rfl
@[simp] theorem enterSequence_prev : (enterSequence s).prev = s.prev := rfl
@[simp] theorem enterSequence_eng : (enterSequence s).eng = s.eng := rfl
@[simp] theorem enterSequence_fsm : (enterSequence s).fsm = .wait := rfl
@[simp] theorem enterSequence_dbcnt : (enterSequence s).dbcnt = s.inst.debounceTicks := rfl
@[simp] theorem enterSequence_acked : (enterSequence s).acked = s.acked := rfl
@[simp] theorem enterSequence_data : (enterSequence s).data = s.data := rfl
@[simp] theorem enterSequence_clk : (enterSequence s).clk = s.clk := rfl
@[simp] theorem enterSequence_inst : (enterSequence s).inst = s.inst := rfl
@[simp] theorem enterSequence_extSr : (enterSequence s).extSr = s.extSr := rfl
@[simp] theorem enterSequence_input : (enterSequence s).input = s.input := rfl
@[simp] theorem enterSequence_out : (enterSequence s).out = s.out := rfl
@[simp] theorem enterSequence_script : (enterSequence s).script = s.script := rfl
@[simp] theorem enterSequence_ticks : (enterSequence s).ticks = s.ticks := rfl

/-! ### sampleSwitches: The sampling tick (R87). -/

@[simp] theorem sampleSwitches_ctrl : (sampleSwitches s).ctrl = s.ctrl := rfl
@[simp] theorem sampleSwitches_chg : (sampleSwitches s).chg = true := rfl
@[simp] theorem sampleSwitches_value : (sampleSwitches s).value = s.input.swIn := rfl
@[simp] theorem sampleSwitches_edge : (sampleSwitches s).edge = s.edge := rfl
@[simp] theorem sampleSwitches_pend : (sampleSwitches s).pend = s.pend := rfl
@[simp] theorem sampleSwitches_last : (sampleSwitches s).last = s.last := rfl
@[simp] theorem sampleSwitches_errc : (sampleSwitches s).errc = s.errc := rfl
@[simp] theorem sampleSwitches_prev : (sampleSwitches s).prev = s.prev := rfl
@[simp] theorem sampleSwitches_eng : (sampleSwitches s).eng = s.eng := rfl
@[simp] theorem sampleSwitches_fsm : (sampleSwitches s).fsm = .dstart := rfl
@[simp] theorem sampleSwitches_dbcnt : (sampleSwitches s).dbcnt = s.dbcnt := rfl
@[simp] theorem sampleSwitches_acked : (sampleSwitches s).acked = false := rfl
@[simp] theorem sampleSwitches_data : (sampleSwitches s).data = s.data := rfl
@[simp] theorem sampleSwitches_clk : (sampleSwitches s).clk = s.clk := rfl
@[simp] theorem sampleSwitches_inst : (sampleSwitches s).inst = s.inst := rfl
@[simp] theorem sampleSwitches_extSr : (sampleSwitches s).extSr = s.extSr := rfl
@[simp] theorem sampleSwitches_input : (sampleSwitches s).input = s.input := rfl
@[simp] theorem sampleSwitches_out : (sampleSwitches s).out = s.out := rfl
@[simp] theorem sampleSwitches_script : (sampleSwitches s).script = s.script := rfl
@[simp] theorem sampleSwitches_ticks : (sampleSwitches s).ticks = s.ticks := rfl

/-! ### seqArm: The sequencer's ARM stage (R91). -/

@[simp] theorem seqArm_ctrl : (seqArm s).ctrl = s.ctrl := rfl
@[simp] theorem seqArm_chg : (seqArm s).chg = s.chg := rfl
@[simp] theorem seqArm_value : (seqArm s).value = s.value := rfl
@[simp] theorem seqArm_edge : (seqArm s).edge = s.value := rfl
@[simp] theorem seqArm_pend : (seqArm s).pend = s.pend := rfl
@[simp] theorem seqArm_last : (seqArm s).last = s.last := rfl
@[simp] theorem seqArm_errc : (seqArm s).errc = s.errc := rfl
@[simp] theorem seqArm_prev : (seqArm s).prev = s.prev := rfl
@[simp] theorem seqArm_eng : (seqArm s).eng = s.eng := rfl
@[simp] theorem seqArm_fsm : (seqArm s).fsm = .clear := rfl
@[simp] theorem seqArm_dbcnt : (seqArm s).dbcnt = s.dbcnt := rfl
@[simp] theorem seqArm_acked : (seqArm s).acked = s.acked := rfl
@[simp] theorem seqArm_data : (seqArm s).data = s.data := rfl
@[simp] theorem seqArm_clk : (seqArm s).clk = s.clk := rfl
@[simp] theorem seqArm_inst : (seqArm s).inst = s.inst := rfl
@[simp] theorem seqArm_extSr : (seqArm s).extSr = s.extSr := rfl
@[simp] theorem seqArm_input : (seqArm s).input = s.input := rfl
@[simp] theorem seqArm_out : (seqArm s).out = s.out := rfl
@[simp] theorem seqArm_script : (seqArm s).script = s.script := rfl
@[simp] theorem seqArm_ticks : (seqArm s).ticks = s.ticks := rfl

/-! ### leaveSequence: CLEAR (R92). -/

@[simp] theorem leaveSequence_ctrl : (leaveSequence s).ctrl = s.ctrl := rfl
@[simp] theorem leaveSequence_chg : (leaveSequence s).chg = s.chg := rfl
@[simp] theorem leaveSequence_value : (leaveSequence s).value = s.value := rfl
@[simp] theorem leaveSequence_edge : (leaveSequence s).edge = s.edge := rfl
@[simp] theorem leaveSequence_pend : (leaveSequence s).pend = 0 := rfl
@[simp] theorem leaveSequence_last : (leaveSequence s).last = s.last := rfl
@[simp] theorem leaveSequence_errc : (leaveSequence s).errc = s.errc := rfl
@[simp] theorem leaveSequence_prev : (leaveSequence s).prev = s.prev := rfl
@[simp] theorem leaveSequence_eng : (leaveSequence s).eng = s.eng := rfl
@[simp] theorem leaveSequence_fsm : (leaveSequence s).fsm = .idle := rfl
@[simp] theorem leaveSequence_dbcnt : (leaveSequence s).dbcnt = s.dbcnt := rfl
@[simp] theorem leaveSequence_acked : (leaveSequence s).acked = s.acked := rfl
@[simp] theorem leaveSequence_data : (leaveSequence s).data = s.data := rfl
@[simp] theorem leaveSequence_clk : (leaveSequence s).clk = s.clk := rfl
@[simp] theorem leaveSequence_inst : (leaveSequence s).inst = s.inst := rfl
@[simp] theorem leaveSequence_extSr : (leaveSequence s).extSr = s.extSr := rfl
@[simp] theorem leaveSequence_input : (leaveSequence s).input = s.input := rfl
@[simp] theorem leaveSequence_out : (leaveSequence s).out = s.out := rfl
@[simp] theorem leaveSequence_script : (leaveSequence s).script = s.script := rfl
@[simp] theorem leaveSequence_ticks : (leaveSequence s).ticks = s.ticks := rfl

/-! ### resetRegisters: Reset (R120). -/

@[simp] theorem resetRegisters_ctrl : (resetRegisters s).ctrl = 0 := rfl
@[simp] theorem resetRegisters_chg : (resetRegisters s).chg = false := rfl
@[simp] theorem resetRegisters_value : (resetRegisters s).value = 0 := rfl
@[simp] theorem resetRegisters_edge : (resetRegisters s).edge = 0 := rfl
@[simp] theorem resetRegisters_pend : (resetRegisters s).pend = 0 := rfl
@[simp] theorem resetRegisters_last : (resetRegisters s).last = 0 := rfl
@[simp] theorem resetRegisters_errc : (resetRegisters s).errc = 0 := rfl
@[simp] theorem resetRegisters_prev : (resetRegisters s).prev = s.input.swIn := rfl
@[simp] theorem resetRegisters_eng : (resetRegisters s).eng = Engine.reset := rfl
@[simp] theorem resetRegisters_fsm : (resetRegisters s).fsm = .idle := rfl
@[simp] theorem resetRegisters_dbcnt : (resetRegisters s).dbcnt = 0 := rfl
@[simp] theorem resetRegisters_acked : (resetRegisters s).acked = false := rfl
@[simp] theorem resetRegisters_data : (resetRegisters s).data = false := rfl
@[simp] theorem resetRegisters_clk : (resetRegisters s).clk = false := rfl
@[simp] theorem resetRegisters_inst : (resetRegisters s).inst = s.inst := rfl
@[simp] theorem resetRegisters_extSr : (resetRegisters s).extSr = s.extSr := rfl
@[simp] theorem resetRegisters_input : (resetRegisters s).input = s.input := rfl
@[simp] theorem resetRegisters_out : (resetRegisters s).out = HostOut.none := rfl
@[simp] theorem resetRegisters_script : (resetRegisters s).script = s.script := rfl
@[simp] theorem resetRegisters_ticks : (resetRegisters s).ticks = s.ticks := rfl

/-! ### The replies are one update -/

@[simp] theorem taken_eq : taken s = reply ⟨true, false, 0x00⟩ s := rfl
@[simp] theorem answer_eq (b : Byte) : answer b s = reply ⟨true, true, b⟩ s := rfl
@[simp] theorem stall_eq : stall s = reply HostOut.none s := rfl
@[simp] theorem noCommand_eq : noCommand s = reply HostOut.none s := rfl

end Sys2Proof.Machine
end

