-- ==== Sys2Proof/Laws/Ops.lean ====
section
/-! SUPPORT. One lemma per shared operation that says everything it can do, and what the conditional operations leave
unchanged. Provers cite these instead of unfolding the operations. -/

namespace Sys2Proof.Machine

variable (s : State)

/-! ### mapNext and the parts of a tick -/

@[simp] theorem mapNext_next (f : State → State) (t : State) : mapNext f (.next t) = .next (f t) := rfl

theorem beforeCommand_eq : beforeCommand s = seqStep (edgeDetect (takeInput s)) := rfl

theorem endTick_eq (t : State) : endTick t = extShift t.clk (engineStep t) := rfl

theorem resetTick_eq : resetTick s = resetRegisters (takeInput s) := rfl

/-! ### The input script -/

@[simp] theorem inputAt_zero : inputAt s 0 = nextInput s := rfl

/-- Taking an input moves every coming input one place up. -/
theorem inputAt_takeInput (k : Nat) : inputAt (takeInput s) k = inputAt s (k + 1) := by
  cases h : s.script with
  | nil => simp [inputAt, h, Nat.add_assoc, Nat.add_comm 1 k]
  | cons i is => simp [inputAt, h, Nat.add_assoc, Nat.add_comm 1 k]

/-- The coming inputs depend on the script and the tick number only. -/
theorem inputAt_congr (t : State) (hs : t.script = s.script) (ht : t.ticks = s.ticks) (k : Nat) :
    inputAt t k = inputAt s k := by
  simp [inputAt, hs, ht]

/-! ### What a tick presents -/

theorem presents_reset (i : TickInput) (h : i.rst = true) : presents i = .reset := by simp [presents, h]

theorem presents_none (i : TickInput) (h : i.rst = false) (hc : i.cmd = none) : presents i = .none := by
  simp [presents, h, hc]

theorem presents_word (i : TickInput) (w : Word) (h : i.rst = false) (hc : i.cmd = some w) :
    presents i = .word (decode w) := by
  simp [presents, h, hc]

/-- A tick presents a reset exactly when RST = 1 (R120). -/
theorem presents_eq_reset_iff (i : TickInput) : presents i = .reset ↔ i.rst = true := by
  unfold presents
  split <;> rename_i h
  · simp [h]
  · split <;> simp [h]

/-! ### The segment ROM and the registers -/

@[simp] theorem segTable_zero (p : Instance) : segTable p 0 = 0xFC := rfl
@[simp] theorem segTable_fifteen (p : Instance) : segTable p 15 = 0x8F := rfl

/-- The ROM is read through the instance only (R37). -/
theorem memRead_congr (t : State) (h : t.inst = s.inst) (i : Nibble) : memRead t i = memRead s i := by
  simp [memRead, h]

/-- Exactly the indices below 8 name a register (R44). -/
theorem regName_isSome_iff (r : Nibble) : (regName? r).isSome = true ↔ r < 8 := by
  revert r
  decide

/-! ### The host's transfer (R56, R67, R75) -/

theorem hostTransfer_busy (v : Byte) (h : s.eng.busy = true) : hostTransfer v s = reply HostOut.none s := by
  simp [hostTransfer, h]

theorem hostTransfer_free (v : Byte) (h : s.eng.busy = false) :
    hostTransfer v s = reply ⟨true, false, 0x00⟩ (engineLoad v s) := by
  simp [hostTransfer, h]

/-! ### The engine step (R68 to R71) -/

theorem engineStep_idle (h : s.eng.busy = false) : engineStep s = s := by simp [engineStep, h]

theorem engineStep_setup (h : s.eng.busy = true) (hp : s.eng.phase = .setup) :
    engineStep s =
      { s with data := s.eng.sh.getLsbD s.eng.n.toNat, eng := ⟨true, s.eng.sh, s.eng.n, .high⟩ } := by
  simp [engineStep, h, hp]

theorem engineStep_high (h : s.eng.busy = true) (hp : s.eng.phase = .high) :
    engineStep s = { s with clk := true, eng := ⟨true, s.eng.sh, s.eng.n, .low⟩ } := by
  simp [engineStep, h, hp]

theorem engineStep_low_more (h : s.eng.busy = true) (hp : s.eng.phase = .low) (hn : s.eng.n ≠ 7) :
    engineStep s = { s with clk := false, eng := ⟨true, s.eng.sh, s.eng.n + 1, .setup⟩ } := by
  simp [engineStep, nextBit, h, hp, show ¬s.eng.n = 7#3 from hn]

theorem engineStep_low_last (h : s.eng.busy = true) (hp : s.eng.phase = .low) (hn : s.eng.n = 7) :
    engineStep s = { s with clk := false, last := s.eng.sh, eng := ⟨false, s.eng.sh, 0, .setup⟩ } := by
  simp [engineStep, nextBit, h, hp, hn]

/-- The engine step writes ENG, DATA, CLK and LAST only (R29, R33, R35). -/
theorem engineStep_frame :
    engineStep s =
      { s with
        eng := (engineStep s).eng, data := (engineStep s).data, clk := (engineStep s).clk
        last := (engineStep s).last } := by
  unfold engineStep
  split
  · split <;> rfl
  · rfl

@[simp] theorem engineStep_ctrl : (engineStep s).ctrl = s.ctrl := by
  rw [engineStep_frame]
@[simp] theorem engineStep_chg : (engineStep s).chg = s.chg := by
  rw [engineStep_frame]
@[simp] theorem engineStep_value : (engineStep s).value = s.value := by
  rw [engineStep_frame]
@[simp] theorem engineStep_edge : (engineStep s).edge = s.edge := by
  rw [engineStep_frame]
@[simp] theorem engineStep_pend : (engineStep s).pend = s.pend := by
  rw [engineStep_frame]
@[simp] theorem engineStep_errc : (engineStep s).errc = s.errc := by
  rw [engineStep_frame]
@[simp] theorem engineStep_prev : (engineStep s).prev = s.prev := by
  rw [engineStep_frame]
@[simp] theorem engineStep_fsm : (engineStep s).fsm = s.fsm := by
  rw [engineStep_frame]
@[simp] theorem engineStep_dbcnt : (engineStep s).dbcnt = s.dbcnt := by
  rw [engineStep_frame]
@[simp] theorem engineStep_acked : (engineStep s).acked = s.acked := by
  rw [engineStep_frame]
@[simp] theorem engineStep_inst : (engineStep s).inst = s.inst := by
  rw [engineStep_frame]
@[simp] theorem engineStep_extSr : (engineStep s).extSr = s.extSr := by
  rw [engineStep_frame]
@[simp] theorem engineStep_input : (engineStep s).input = s.input := by
  rw [engineStep_frame]
@[simp] theorem engineStep_out : (engineStep s).out = s.out := by
  rw [engineStep_frame]
@[simp] theorem engineStep_script : (engineStep s).script = s.script := by
  rw [engineStep_frame]
@[simp] theorem engineStep_ticks : (engineStep s).ticks = s.ticks := by
  rw [engineStep_frame]

/-! ### The external shift register (R78) -/

/-- EXT_SR is all that changes in it. -/
theorem extShift_frame (b : Bool) : extShift b s = { s with extSr := (extShift b s).extSr } := by
  unfold extShift
  split <;> rfl

theorem extShift_rise (h : s.clk = true) :
    (extShift false s).extSr = s.extSr.extractLsb' 0 7 ++ BitVec.ofBool s.data := by
  simp [extShift, h]

theorem extShift_no_rise (b : Bool) (h : b = true ∨ s.clk = false) : extShift b s = s := by
  rcases h with h | h <;> simp [extShift, h]

@[simp] theorem extShift_ctrl (b : Bool) : (extShift b s).ctrl = s.ctrl := by
  rw [extShift_frame]
@[simp] theorem extShift_chg (b : Bool) : (extShift b s).chg = s.chg := by
  rw [extShift_frame]
@[simp] theorem extShift_value (b : Bool) : (extShift b s).value = s.value := by
  rw [extShift_frame]
@[simp] theorem extShift_edge (b : Bool) : (extShift b s).edge = s.edge := by
  rw [extShift_frame]
@[simp] theorem extShift_pend (b : Bool) : (extShift b s).pend = s.pend := by
  rw [extShift_frame]
@[simp] theorem extShift_last (b : Bool) : (extShift b s).last = s.last := by
  rw [extShift_frame]
@[simp] theorem extShift_errc (b : Bool) : (extShift b s).errc = s.errc := by
  rw [extShift_frame]
@[simp] theorem extShift_prev (b : Bool) : (extShift b s).prev = s.prev := by
  rw [extShift_frame]
@[simp] theorem extShift_eng (b : Bool) : (extShift b s).eng = s.eng := by
  rw [extShift_frame]
@[simp] theorem extShift_fsm (b : Bool) : (extShift b s).fsm = s.fsm := by
  rw [extShift_frame]
@[simp] theorem extShift_dbcnt (b : Bool) : (extShift b s).dbcnt = s.dbcnt := by
  rw [extShift_frame]
@[simp] theorem extShift_acked (b : Bool) : (extShift b s).acked = s.acked := by
  rw [extShift_frame]
@[simp] theorem extShift_data (b : Bool) : (extShift b s).data = s.data := by
  rw [extShift_frame]
@[simp] theorem extShift_clk (b : Bool) : (extShift b s).clk = s.clk := by
  rw [extShift_frame]
@[simp] theorem extShift_inst (b : Bool) : (extShift b s).inst = s.inst := by
  rw [extShift_frame]
@[simp] theorem extShift_input (b : Bool) : (extShift b s).input = s.input := by
  rw [extShift_frame]
@[simp] theorem extShift_out (b : Bool) : (extShift b s).out = s.out := by
  rw [extShift_frame]
@[simp] theorem extShift_script (b : Bool) : (extShift b s).script = s.script := by
  rw [extShift_frame]
@[simp] theorem extShift_ticks (b : Bool) : (extShift b s).ticks = s.ticks := by
  rw [extShift_frame]

/-! ### The sequencer (R86 to R92) -/

theorem seqStep_idle (h : s.fsm = .idle) :
    seqStep s = if s.en && s.pend != 0 then enterSequence s else s := by
  simp [seqStep, seqIdle, h]

theorem seqStep_wait (h : s.fsm = .wait) :
    seqStep s = if s.dbcnt = 0 then sampleSwitches s else { s with dbcnt := s.dbcnt - 1 } := by
  simp [seqStep, seqWait, h]

theorem seqStep_dstart (h : s.fsm = .dstart) :
    seqStep s =
      if s.auto then
        if s.eng.busy then s else { s with eng := ⟨true, memRead s s.value, 0, .setup⟩, fsm := .dshift }
      else { s with fsm := .dhold } := by
  cases ha : s.auto <;> cases hb : s.eng.busy <;> simp [seqStep, seqDstart, engineLoad, h, ha, hb]

theorem seqStep_dshift (h : s.fsm = .dshift) :
    seqStep s = if s.eng.busy then s else { s with fsm := .dhold } := by
  cases hb : s.eng.busy <;> simp [seqStep, seqDshift, h, hb]

theorem seqStep_dhold (h : s.fsm = .dhold) :
    seqStep s = if s.hold && !s.acked then s else { s with fsm := .arm } := by
  simp [seqStep, seqDhold, h]

theorem seqStep_arm (h : s.fsm = .arm) : seqStep s = seqArm s := by simp [seqStep, h]

theorem seqStep_clear (h : s.fsm = .clear) : seqStep s = leaveSequence s := by simp [seqStep, h]

/-- The sequencer writes FSM, DBCNT, ACKED, VALUE, CHG, EDGE, PEND and the engine only. -/
theorem seqStep_frame :
    seqStep s =
      { s with
        fsm := (seqStep s).fsm, dbcnt := (seqStep s).dbcnt, acked := (seqStep s).acked
        value := (seqStep s).value, chg := (seqStep s).chg, edge := (seqStep s).edge
        pend := (seqStep s).pend, eng := (seqStep s).eng } := by
  cases h : s.fsm
  · rw [seqStep_idle s h]; split <;> rfl
  · rw [seqStep_wait s h]; split <;> rfl
  · rw [seqStep_dstart s h]; split
    · split <;> rfl
    · rfl
  · rw [seqStep_dshift s h]; split <;> rfl
  · rw [seqStep_dhold s h]; split <;> rfl
  · rw [seqStep_arm s h]; rfl
  · rw [seqStep_clear s h]; rfl

@[simp] theorem seqStep_ctrl : (seqStep s).ctrl = s.ctrl := by
  rw [seqStep_frame]
@[simp] theorem seqStep_last : (seqStep s).last = s.last := by
  rw [seqStep_frame]
@[simp] theorem seqStep_errc : (seqStep s).errc = s.errc := by
  rw [seqStep_frame]
@[simp] theorem seqStep_prev : (seqStep s).prev = s.prev := by
  rw [seqStep_frame]
@[simp] theorem seqStep_data : (seqStep s).data = s.data := by
  rw [seqStep_frame]
@[simp] theorem seqStep_clk : (seqStep s).clk = s.clk := by
  rw [seqStep_frame]
@[simp] theorem seqStep_inst : (seqStep s).inst = s.inst := by
  rw [seqStep_frame]
@[simp] theorem seqStep_extSr : (seqStep s).extSr = s.extSr := by
  rw [seqStep_frame]
@[simp] theorem seqStep_input : (seqStep s).input = s.input := by
  rw [seqStep_frame]
@[simp] theorem seqStep_out : (seqStep s).out = s.out := by
  rw [seqStep_frame]
@[simp] theorem seqStep_script : (seqStep s).script = s.script := by
  rw [seqStep_frame]
@[simp] theorem seqStep_ticks : (seqStep s).ticks = s.ticks := by
  rw [seqStep_frame]

/-! ### Consecutive ticks -/

@[simp] theorem runTicks_zero : runTicks 0 s = .next s := rfl

theorem runTicks_succ (k : Nat) (t : State) (h : step s = .next t) : runTicks (k + 1) s = runTicks k t := by
  simp [runTicks, h]

/-- Ticks compose: k ticks and then m more. -/
theorem runTicks_add (k m : Nat) (t : State) (h : runTicks k s = .next t) :
    runTicks (k + m) s = runTicks m t := by
  induction k generalizing s with
  | zero => simp at h; simp [h]
  | succ k ih =>
    cases hs : step s with
    | next u =>
      rw [runTicks_succ s k u hs] at h
      rw [Nat.succ_add, runTicks_succ s (k + m) u hs]
      exact ih u h
    | fault e => simp [runTicks, hs] at h
    | refused e => simp [runTicks, hs] at h

end Sys2Proof.Machine
end

