-- ==== Sys2Proof/Laws/PerInstr.lean ====
section
/-! SUPPORT. Statements made per instruction, one lemma per constructor of `Instr`. -/

namespace Sys2Proof.Laws.OpcodeField

/-- The encoded word carries the command's own opcode in bits 15:12 (R59, R61). -/
def Statement (i : Instr) : Prop := opField (encode i) = i.opcode

theorem nop : Statement .nop := opField_wordZ 0x0
theorem shift (imm8 : Byte) : Statement (.shift imm8) := opField_wordI8 0x1 imm8
theorem showSeg (imm4 : Nibble) : Statement (.showSeg imm4) := opField_wordI4 0x2 imm4
theorem rdsw : Statement .rdsw := opField_wordZ 0x3
theorem rdreg (r : Nibble) : Statement (.rdreg r) := opField_wordR 0x4 r
theorem wrctrl (imm4 : Nibble) : Statement (.wrctrl imm4) := opField_wordI4 0x5 imm4
theorem wredge (imm4 : Nibble) : Statement (.wredge imm4) := opField_wordI4 0x6 imm4
theorem arm : Statement .arm := opField_wordZ 0x7
theorem clrpend (mask : Nibble) : Statement (.clrpend mask) := opField_wordI4 0x8 mask
theorem ack : Statement .ack := opField_wordZ 0x9

end Sys2Proof.Laws.OpcodeField
end

