-- ==== Sys2Proof/Machine/Assembler.lean ====
section
/-! DEFINITION. The assembler of R65: one command per line to one word. DESIGN CHOICE where R65 leaves the text form open
(log 16). The machine does not depend on this file. -/

namespace Sys2Proof.Machine

/-- What a line assembles to. -/
inductive AsmLine where
  /-- The line holds no command. -/
  | blank
  /-- The line's word. -/
  | word (w : Word)
  /-- Refused: operand out of range, unknown mnemonic, missing or extra operand (R65). -/
  | refused
  deriving DecidableEq, Repr

/-- The line up to the comment sign. -/
def dropComment (line : List Char) : List Char := line.takeWhile (· != ';')

/-- Split at the characters `p` holds of; empty parts are kept. -/
def splitAtChars (p : Char → Bool) : List Char → List (List Char)
  | [] => [[]]
  | c :: cs =>
    match splitAtChars p cs with
    | [] => [[]]
    | part :: parts => if p c then [] :: part :: parts else (c :: part) :: parts

/-- The blank-separated tokens of a line, comment dropped. -/
def tokens (line : List Char) : List (List Char) :=
  (splitAtChars (fun c => c == ' ' || c == '\t') (dropComment line)).filter (!·.isEmpty)

/-- The value of a digit, of a base up to 16. -/
def digitValue (c : Char) : Option Nat :=
  if '0' ≤ c ∧ c ≤ '9' then some (c.toNat - 48)
  else if 'a' ≤ c ∧ c ≤ 'f' then some (c.toNat - 87)
  else if 'A' ≤ c ∧ c ≤ 'F' then some (c.toNat - 55)
  else none

/-- The number the digits write in a base, most significant first. -/
def digitsValue (base acc : Nat) : List Char → Option Nat
  | [] => some acc
  | c :: cs =>
    match digitValue c with
    | some d => if d < base then digitsValue base (acc * base + d) cs else none
    | none => none

/-- A number in decimal, `0x` hex or `0b` binary (R65). -/
def number : List Char → Option Nat
  | [] => none
  | '0' :: 'x' :: c :: cs => digitsValue 16 0 (c :: cs)
  | '0' :: 'b' :: c :: cs => digitsValue 2 0 (c :: cs)
  | c :: cs => digitsValue 10 0 (c :: cs)

/-- A number below a bound (R65). -/
def numberBelow (bound : Nat) (t : List Char) : Option Nat :=
  match number t with
  | some n => if n < bound then some n else none
  | none => none

/-- The value a name has in a table of names. -/
def named (table : List (List Char × Nat)) (t : List Char) : Option Nat :=
  match table.find? (·.1 == t) with
  | some e => some e.2
  | none => none

/-- The names of the CTRL bits (R65). -/
def ctrlNames : List (List Char × Nat) :=
  [("EN".toList, 1), ("AUTO".toList, 2), ("HOLD".toList, 4), ("CIE".toList, 8)]

/-- The names of the registers (R65). -/
def regNames : List (List Char × Nat) :=
  [("CTRL".toList, 0), ("STATUS".toList, 1), ("VALUE".toList, 2), ("EDGE".toList, 3), ("PEND".toList, 4),
   ("LAST".toList, 5), ("ERRC".toList, 6), ("DBST".toList, 7)]

/-- The CTRL value of bit names joined by `|` (R65). -/
def joinedNames : List (List Char) → Option Nat
  | [] => some 0
  | t :: ts =>
    match named ctrlNames t, joinedNames ts with
    | some b, some m => some (b ||| m)
    | _, _ => none

/-- The operand of WRCTRL: a number 0 to 15, or names joined by `|` (R65). -/
def ctrlOperand (t : List Char) : Option Nat :=
  match numberBelow 16 t with
  | some n => some n
  | none => joinedNames (splitAtChars (· == '|') t)

/-- The operand of RDREG: a register name, or a number 0 to 7 (R65). -/
def regOperand (t : List Char) : Option Nat :=
  match named regNames t with
  | some n => some n
  | none => numberBelow 8 t

/-- A command or a pseudo-command that takes no operand (R65, R66). -/
def plainCommands : List (List Char × Instr) :=
  [("NOP".toList, .nop), ("RDSW".toList, .rdsw), ("ARM".toList, .arm), ("ACK".toList, .ack),
   ("CLEAR".toList, pseudoClear), ("CLRALL".toList, pseudoClrall), ("RDSTATUS".toList, pseudoRdstatus),
   ("DISABLE".toList, pseudoDisable)]

/-- The word of a command with one operand, from the operand's value. -/
def asmWith (f : Nat → Instr) : Option Nat → AsmLine
  | some n => .word (encode (f n))
  | none => .refused

/-- A command with one operand, or `.word N` (R65). -/
def asmOperand (m t : List Char) : AsmLine :=
  if m == "SHIFT".toList then asmWith (fun n => .shift (BitVec.ofNat 8 n)) (numberBelow 256 t)
  else if m == "SHOW".toList then asmWith (fun n => .showSeg (BitVec.ofNat 4 n)) (numberBelow 16 t)
  else if m == "RDREG".toList then asmWith (fun n => .rdreg (BitVec.ofNat 4 n)) (regOperand t)
  else if m == "WRCTRL".toList then asmWith (fun n => .wrctrl (BitVec.ofNat 4 n)) (ctrlOperand t)
  else if m == "WREDGE".toList then asmWith (fun n => .wredge (BitVec.ofNat 4 n)) (numberBelow 16 t)
  else if m == "CLRPEND".toList then asmWith (fun n => .clrpend (BitVec.ofNat 4 n)) (numberBelow 16 t)
  else if m == ".word".toList then
    match numberBelow 65536 t with
    | some n => .word (BitVec.ofNat 16 n)
    | none => .refused
  else .refused

/-- A line with no operand. -/
def asmPlain (m : List Char) : AsmLine :=
  match plainCommands.find? (·.1 == m) with
  | some e => .word (encode e.2)
  | none => .refused

/-- One line of assembly (R65). -/
def assemble (line : List Char) : AsmLine :=
  match tokens line with
  | [] => .blank
  | [m] => asmPlain m
  | [m, t] => asmOperand m t
  | _ => .refused

end Sys2Proof.Machine
end

