-- ==== Sys2Proof/Tests/Slice0.lean ====
section
/-! SUPPORT. Tests with expected results from 95_test_vectors.md and the encoding strings of R59, each about one step; and
for every statement with hypotheses a concrete state that meets them (`witness_…`). -/

namespace Sys2Proof.Tests

open Sys2Proof Sys2Proof.Machine

/-! ### A concrete HBGIO -/

/-- The reset state of a concrete HBGIO: DEBOUNCE_TICKS = 2, open segments 0x60, levels 0b0000 at reset, EXT_SR = 0x00. -/
def st : State :=
  { State.reset with
    prev := 0, inst := ⟨2, Vector.replicate 14 0x60⟩, extSr := 0x00, input := ⟨true, 0, none⟩ }

/-- The next tick: levels `l` and this on the command port. -/
def at1 (s : State) (l : Nibble) (c : Option Word) : State := { s with script := [⟨false, l, c⟩] }

/-- The coming `n` ticks: levels `l` and this on the command port in each. -/
def atN (n : Nat) (s : State) (l : Nibble) (c : Option Word) : State :=
  { s with script := List.replicate n ⟨false, l, c⟩ }

/-- The state after one step. -/
def after (s : State) : State :=
  match step s with
  | .next t => t
  | .fault _ => s
  | .refused _ => s

/-- One tick with a word, from `s`. -/
def tick (s : State) (l : Nibble) (w : Word) : State := after (at1 s l (some w))

/-- The engine in a transfer of 0xA5, in bit 2, about to raise CLK. -/
def busySt : State := { st with eng := ⟨true, 0xA5, 2, .high⟩, data := true }

/-- The sequencer held in DHOLD with CTRL = 0xF and CHG = 1 (L2.17). -/
def heldSt : State := { st with ctrl := 0xF, chg := true, fsm := .dhold }

/-- DSTART waiting, with AUTO = 1, in the last tick of the host's transfer of 0xA5. -/
def waitingSt : State :=
  { st with ctrl := 3, chg := true, fsm := .dstart, eng := ⟨true, 0xA5, 7, .low⟩, clk := true, data := true }

/-! ### WellFormed: the one check refuses the ill-formed term -/

theorem test_wellFormed_rdreg_7 : (Instr.rdreg 7).wellFormed = true := by decide
theorem test_illFormed_rdreg_8 : (Instr.rdreg 8).wellFormed = false := by decide
theorem test_illFormed_rdreg_15 : (Instr.rdreg 15).wellFormed = false := by decide

/-! ### Decode: every constructor, by a word written out from R59 and R61 -/

theorem test_decode_nop : decode 0b0000000000000000 = .legal .nop := by decide
theorem test_decode_shift : decode 0b0001000011111100 = .legal (.shift 0xFC) := by decide
theorem test_decode_show : decode 0b0010000000001111 = .legal (.showSeg 15) := by decide
theorem test_decode_rdsw : decode 0b0011000000000000 = .legal .rdsw := by decide
theorem test_decode_rdreg : decode 0b0100011000000000 = .legal (.rdreg 6) := by decide
theorem test_decode_wrctrl : decode 0b0101000000001011 = .legal (.wrctrl 0xB) := by decide
theorem test_decode_wredge : decode 0b0110000000000101 = .legal (.wredge 0b0101) := by decide
theorem test_decode_arm : decode 0b0111000000000000 = .legal .arm := by decide
theorem test_decode_clrpend : decode 0b1000000000000010 = .legal (.clrpend 2) := by decide
theorem test_decode_ack : decode 0b1001000000000000 = .legal .ack := by decide
/-- L2.21: cause 3 wins over cause 2. -/
theorem test_decode_priority : decode 0x4901 = .illegal .reservedReg 4 := by decide
/-- L2.21. -/
theorem test_decode_reserved : decode 0xF0FF = .illegal .reservedOpcode 0xF := by decide
/-- R62: 0x0nnn with nnn ≠ 0 is illegal, not a hint. -/
theorem test_decode_nop_mbz : decode 0x0001 = .illegal .nonzeroMbz 0 := by decide
theorem test_decodeTableWord : decodeTableWord 16 0x10FC = some (.shift 0xFC) := by decide

/-! ### One step of each command -/

/-- L2.20. -/
theorem test_nop : tick st 0 0x0000 = { after (at1 st 0 none) with
    out := ⟨true, false, 0x00⟩, input := ⟨false, 0, some 0x0000⟩ } := by decide
/-- L2.5 at tick 0: DATA takes bit 0, the engine is busy. -/
theorem test_shift : (tick st 0 0x1001).data = true ∧ (tick st 0 0x1001).eng.busy = true := by decide
/-- L2.10: stalled while busy. -/
theorem test_show_stalls : (tick busySt 0 0x2000).out = ⟨false, false, 0x00⟩ := by decide
/-- L2.10: 0x200F loads 0x8F. -/
theorem test_show_15 : (tick st 0 0x200F).eng.sh = 0x8F := by decide
/-- L2.10: an illegal SHIFT is taken, not stalled, while busy. -/
theorem test_shift_mbz : (tick busySt 0 0x1100).errc = 0xA1 ∧ (tick busySt 0 0x1100).out.accept = true := by decide
/-- L2.11. -/
theorem test_rdsw : (tick st 0b1010 0x3000).out = ⟨true, true, 0x0A⟩ := by decide
/-- L2.17: STATUS = 0x16 in DHOLD. -/
theorem test_rdreg_status : (tick heldSt 0 0x4100).out = ⟨true, true, 0x16⟩ := by decide
/-- L2.21. -/
theorem test_rdreg_9 : (tick st 0 0x4900).errc = 0xB4 ∧ (tick st 0 0x4900).out = ⟨true, false, 0x00⟩ := by decide
/-- L2.20. -/
theorem test_wrctrl : (tick st 0 0x500F).ctrl = 0xF := by decide
/-- L2.19. -/
theorem test_wredge : (tick st 0 0x6005).edge = 0b0101 := by decide
/-- L2.19. -/
theorem test_arm : (tick st 0b1110 0x7000).edge = 0b1110 := by decide
/-- L2.19. -/
theorem test_clrpend : (tick { st with pend := 0b1010 } 0 0x8002).pend = 0b1000 := by decide
/-- L2.19: the clear wins over an edge of the same tick. -/
theorem test_clrpend_edge : (tick st 0b0001 0x8001).pend = 0 := by decide
/-- The example of R101. -/
theorem test_ack : (tick heldSt 0 0x9000).chg = false ∧ (tick heldSt 0 0x9000).irq = false := by decide

/-! ### One step of the rest of the machine -/

/-- L2.21: only the first illegal command is recorded. -/
theorem test_errc_sticky : (tick { st with errc := 0x9B } 0 0x4F00).errc = 0x9B := by decide
/-- L2.12, last row. -/
theorem test_edges : (after (at1 { st with prev := 0b1001, edge := 0b1001 } 0b0110 none)).pend = 0b1111 := by decide
/-- L2.13, tick 10. -/
theorem test_trigger : (after (at1 { st with ctrl := 0xB } 1 none)).fsm = .wait ∧
    (after (at1 { st with ctrl := 0xB } 1 none)).dbcnt = 2 := by decide
/-- L2.14 (d): an ACK in the sampling tick clears the CHG just set. -/
theorem test_ack_in_sampling_tick : (tick { st with fsm := .wait } 1 0x9000).value = 1 ∧
    (tick { st with fsm := .wait } 1 0x9000).chg = false := by decide
/-- L2.14 (c): the sequencer wins the engine, the SHIFT stalls. -/
theorem test_dstart_wins : (tick { st with ctrl := 0xB, fsm := .dstart, value := 15 } 0 0x1055).eng.sh = 0x8F ∧
    (tick { st with ctrl := 0xB, fsm := .dstart, value := 15 } 0 0x1055).out.accept = false := by decide
/-- R78: EXT_SR takes DATA at the rising edge. -/
theorem test_extSr : (after (at1 { busySt with extSr := 0x81 } 0 none)).extSr = 0x03 := by decide
/-- L2.9: reset during a transfer. -/
theorem test_reset :
    after { busySt with clk := true, extSr := 0x03, script := [⟨true, 0b0110, some 0x1055⟩] } =
      { st with prev := 0b0110, extSr := 0x03, input := ⟨true, 0b0110, some 0x1055⟩, ticks := 2 } := by decide
/-- A word stored by `withFetchWord` is run by the very next step. -/
theorem test_withFetchWord : (after (st.withFetchWord 16 0x500B)).ctrl = 0xB := by decide
theorem test_rev8 : rev8 0xFC = 0x3F ∧ rev8 0x8F = 0xF1 := by decide
/-- 43_register_access.md R105, example. -/
theorem test_assemble : assemble "WRCTRL EN|AUTO|HOLD|CIE ; all".toList = .word 0x500F := by decide
theorem test_assemble_refuses : assemble "RDREG 8".toList = .refused := by decide
/-- P1 of 95_test_vectors.md: the words of the boot procedure in mode 1. -/
theorem test_boot : bootProgram [0x80, 0x40, 0x20, 0x10, 0x08, 0x04] 1 1 =
    [0x1080, 0x1040, 0x1020, 0x1010, 0x1008, 0x1004, 0x1000, 0x3000, 0x7000, 0x800F, 0x500F] := by decide

/-! ### Witnesses of the statements' hypotheses -/

/-- StepRunsDecodedCommand. -/
theorem witness_step_runs : (nextInput (at1 st 3 (some 0x10FC))).rst = false ∧
    (nextInput (at1 st 3 (some 0x10FC))).cmd = some 0x10FC ∧ decode 0x10FC = .legal (.shift 0xFC) := by decide

/-- TickRunsSubStepsInOrder: each of its cases. -/
theorem witness_tick_cases :
    presents (nextInput { st with script := [⟨true, 0, some 0⟩] }) = .reset ∧
    presents (nextInput (at1 st 0 none)) = .none ∧
    presents (nextInput (at1 st 0 (some 0x9000))) = .word (.legal .ack) ∧
    presents (nextInput (at1 st 0 (some 0xB000))) = .word (.illegal .reservedOpcode 0xB) := by decide

/-- DecodeMatchesOpcodeMap: a legal word, and the RDREG row at r = 7 (0x4800 with r = 8 is illegal, witness_causes). -/
theorem witness_opcode_map : decode 0x4700 = .legal (.rdreg 7) ∧ (Instr.rdreg 7).row ∈ opcodeMap ∧
    (0x4700 : Word) &&& (Instr.rdreg 7).row.mask = (Instr.rdreg 7).row.matchBits ∧
    (0x4700 : Word).extractLsb' 8 4 ≤ 7#4 := by decide

/-- IllegalCausesInPriorityOrder: each cause at the edge of its range. -/
theorem witness_causes : decode 0xA000 = .illegal .reservedOpcode 0xA ∧ decode 0x4800 = .illegal .reservedReg 4 ∧
    decode 0x4701 = .illegal .nonzeroMbz 4 ∧ decode 0x9001 = .illegal .nonzeroMbz 9 ∧
    decode 0x1100 = .illegal .nonzeroMbz 1 ∧ decode 0x8010 = .illegal .nonzeroMbz 8 := by decide

/-- DecodeOfEncode and EncodeOfDecode. -/
theorem witness_roundtrip : (Instr.rdreg 7).wellFormed = true ∧ decode 0x200F = .legal (.showSeg 15) := by decide

/-- ShiftLoadsFreeEngine, ShowLoadsSegmentPattern (with both ends of its open range), TransferStallsWhileBusy. -/
theorem witness_engine_free_busy : st.eng.busy = false ∧ busySt.eng.busy = true ∧
    (1 ≤ (1 : Nibble).toNat ∧ (1 : Nibble).toNat ≤ 14) ∧ (1 ≤ (14 : Nibble).toNat ∧ (14 : Nibble).toNat ≤ 14) := by
  decide

/-- RdregReservedIndexRecorded, at both ends. -/
theorem witness_reserved_index : (8 : Nibble) ≤ 8 ∧ (8 : Nibble) ≤ 15 := by decide

/-- ReadsHaveNoSideEffect. -/
theorem witness_reads : decode 0x3000 = .legal .rdsw ∧ decode 0x4700 = .legal (.rdreg 7) := by decide

/-- OnlyBusyTransferWordsStall: both sides of its condition occur. -/
theorem witness_stall : (after (busySt.presenting (some 0x2000))).out.accept = false ∧
    (after (busySt.presenting (some 0x3000))).out.accept = true := by decide

/-- IllegalWordOnlyRecorded. -/
theorem witness_illegal : decode 0x2010 = .illegal .nonzeroMbz 2 ∧ decode 0x4F00 = .illegal .reservedReg 4 ∧
    decode 0xFFFF = .illegal .reservedOpcode 0xF := by decide

/-- The coming ticks of `atN` are not resets. -/
theorem noReset_atN (k n : Nat) (s : State) (l : Nibble) (c : Option Word) (h : k ≤ n) :
    NoReset k (atN n s l c) := by
  intro j hj
  have : j < n := by omega
  simp [inputAt, atN, List.getD_eq_getElem?_getD, this]

/-- Every coming tick of `atN` presents the same. -/
theorem presents_atN (n j : Nat) (s : State) (l : Nibble) (c : Option Word) (h : j < n) :
    presents (inputAt (atN n s l c) j) = presents ⟨false, l, c⟩ := by
  simp [inputAt, atN, List.getD_eq_getElem?_getD, h]

theorem noWrctrl_atN (k n : Nat) (s : State) (l : Nibble) (h : k ≤ n) : NoWrctrl k (atN n s l none) := by
  intro j hj m
  rw [presents_atN n j s l none (by omega)]
  simp [presents]

theorem noEdgeWrite_atN (j n : Nat) (s : State) (l : Nibble) (h : j < n) : NoEdgeWriteAt j (atN n s l none) := by
  refine ⟨?_, fun m => ?_⟩ <;> rw [presents_atN n j s l none h] <;> simp [presents]

/-- FirstErrorRecordIsKept. -/
theorem witness_error_kept : ({ st with errc := 0x9B } : State).errc.getLsbD 7 = true ∧
    NoReset 5 (atN 5 { st with errc := 0x9B } 0 (some 0xA123)) :=
  ⟨by decide, noReset_atN 5 5 _ _ _ (Nat.le_refl 5)⟩

/-- CtrlNextValue, ChgNextValue, EdgeNextValue, PendNextValue, IrqStaysUntilAcknowledged: each named case occurs. -/
theorem witness_writers :
    presents (nextInput (at1 st 0 (some 0x500F))) = .word (.legal (.wrctrl 0xF)) ∧
    presents (nextInput (at1 st 0 (some 0x6005))) = .word (.legal (.wredge 5)) ∧
    presents (nextInput (at1 st 0 (some 0x7000))) = .word (.legal .arm) ∧
    presents (nextInput (at1 st 0 (some 0x8001))) = .word (.legal (.clrpend 1)) ∧
    heldSt.irq = true := by decide

/-- ValueNextValue and LastNextValue: with RST, and without. -/
theorem witness_rst : (nextInput { st with script := [⟨true, 6, none⟩] }).rst = true ∧
    (nextInput (at1 st 6 none)).rst = false := by decide

/-- EngineStepRules: a state for each clause. -/
theorem witness_engine_clauses :
    (busySt.eng.busy = true ∧ busySt.eng.phase = .high) ∧
    ((⟨true, 0xA5, 2, .setup⟩ : Engine).busy = true ∧ (⟨true, 0xA5, 2, .setup⟩ : Engine).phase = .setup) ∧
    ((⟨true, 0xA5, 6, .low⟩ : Engine).phase = .low ∧ (⟨true, 0xA5, 6, .low⟩ : Engine).n.toNat ≠ 7) ∧
    ((⟨true, 0xA5, 7, .low⟩ : Engine).phase = .low ∧ (⟨true, 0xA5, 7, .low⟩ : Engine).n.toNat = 7) := by decide

/-- TransferByteHasOneOfThreeSources: a load by each of the three. -/
theorem witness_sources :
    (st.eng.busy = false ∧ (tick st 0 0x10A5).eng.busy = true ∧ (tick st 0 0x10A5).eng.sh = 0xA5) ∧
    (tick st 0 0x2000).eng.sh = 0xFC ∧
    ((after (at1 { st with ctrl := 2, fsm := .dstart, value := 15 } 0 none)).eng.busy = true ∧
      (after (at1 { st with ctrl := 2, fsm := .dstart, value := 15 } 0 none)).eng.sh = 0x8F) := by decide

/-- The state before a load tick with 24 silent ticks after it. -/
def loadSt : State := { st with script := ⟨false, 0, some 0x10A5⟩ :: List.replicate 24 ⟨false, 0, none⟩ }

/-- TransferFollowsTimingTable, TransferClocksEightBitsLsbFirst, ShiftRegisterHoldsReversedByte. -/
theorem witness_transfer : loadSt.clk = false ∧ loadSt.eng.busy = false ∧ step loadSt = .next (after loadSt) ∧
    (after loadSt).eng.busy = true ∧ NoReset 23 (after loadSt) := by
  refine ⟨by decide, by decide, rfl, by decide, ?_⟩
  unfold NoReset
  decide

/-- A sound state in mid-transfer. -/
theorem inv_busySt : Inv busySt where
  clkShape := by decide
  idleShape := by decide
  setupShape := by decide
  dataShape := by decide
  dbcntBound := by decide
  dbcntRest := by decide
  dshiftOwn := by decide
  dshiftDone := by decide
  chgAcked := by decide
  sampledChg := by decide
  errcShape := by decide
  prevLevels := by decide
  outShape := by decide

/-- A sound state with the engine idle. -/
theorem inv_st : Inv st where
  clkShape := by decide
  idleShape := by decide
  setupShape := by decide
  dataShape := by decide
  dbcntBound := by decide
  dbcntRest := by decide
  dshiftOwn := by decide
  dshiftDone := by decide
  chgAcked := by decide
  sampledChg := by decide
  errcShape := by decide
  prevLevels := by decide
  outShape := by decide

/-- A sound state in which DSTART waits for the host's transfer. -/
theorem inv_waitingSt : Inv waitingSt where
  clkShape := by decide
  idleShape := by decide
  setupShape := by decide
  dataShape := by decide
  dbcntBound := by decide
  dbcntRest := by decide
  dshiftOwn := by decide
  dshiftDone := by decide
  chgAcked := by decide
  sampledChg := by decide
  errcShape := by decide
  prevLevels := by decide
  outShape := by decide

/-- A script leaves the invariant alone. -/
theorem inv_script (s : State) (xs : List TickInput) (h : Inv s) : Inv { s with script := xs } :=
  ⟨h.1, h.2, h.3, h.4, h.5, h.6, h.7, h.8, h.9, h.10, h.11, h.12, h.13⟩

/-- StepKeepsInvariant, and the second clause of TransferClocksEightBitsLsbFirst. -/
theorem witness_invariant : Inv busySt ∧ Inv st ∧ st.eng.busy = false := ⟨inv_busySt, inv_st, by decide⟩

/-- DataChangesOnlyWhileClockLow, in a tick in which DATA changes. -/
theorem witness_data_changes : Inv (at1 st 0 (some 0x1001)) ∧ (nextInput (at1 st 0 (some 0x1001))).rst = false ∧
    (tick st 0 0x1001).data ≠ st.data := ⟨inv_script st _ inv_st, by decide, by decide⟩

/-- HostTransferNeverStarved, with SHIFT and with SHOW. -/
theorem witness_never_starved :
    (Inv (atN 48 busySt 0 (some 0x1055)) ∧ ∀ j, j < 48 → TransferAt j (atN 48 busySt 0 (some 0x1055))) ∧
    (Inv (atN 48 busySt 0 (some 0x200F)) ∧ ∀ j, j < 48 → TransferAt j (atN 48 busySt 0 (some 0x200F))) := by
  refine ⟨⟨inv_script busySt _ inv_busySt, fun j hj => .inl ⟨0x55, ?_⟩⟩,
    ⟨inv_script busySt _ inv_busySt, fun j hj => .inr ⟨15, ?_⟩⟩⟩ <;> rw [presents_atN 48 j busySt 0 _ hj] <;> decide

/-- SequencerTransferNeverStarved, both clauses. -/
theorem witness_sequencer_never_starved :
    (waitingSt.fsm = .dstart ∧ waitingSt.ctrl.getLsbD 1 = true ∧ waitingSt.eng.busy = true ∧
      waitingSt.eng.phase = .low ∧ waitingSt.eng.n = 7) ∧
    Inv (atN 24 waitingSt 0 none) ∧ NoReset 24 (atN 24 waitingSt 0 none) ∧ NoWrctrl 24 (atN 24 waitingSt 0 none) :=
  ⟨by decide, inv_script waitingSt _ inv_waitingSt, noReset_atN 24 24 _ _ _ (by decide),
    noWrctrl_atN 24 24 _ _ (by decide)⟩

/-- ExternalRegisterNextValue: a tick with a rise of CLK, one without, and a reset tick. -/
theorem witness_extSr : (after (at1 busySt 0 none)).clk = true ∧ busySt.clk = false ∧
    (after (at1 st 0 none)).clk = false ∧ (after { busySt with script := [⟨true, 0, none⟩] }).clk = false := by decide

/-- SequencerStageRules and SequencesNeverNest: every stage, with both values of each condition. -/
theorem witness_stages :
    (({ st with ctrl := 1, pend := 1 } : State).ctrl.getLsbD 0 = true ∧ ({ st with pend := 1 } : State).pend ≠ 0) ∧
    ({ st with fsm := .wait } : State).dbcnt = 0 ∧ ({ st with fsm := .wait, dbcnt := 2 } : State).dbcnt ≠ 0 ∧
    ({ st with ctrl := 2, fsm := .dstart } : State).ctrl.getLsbD 1 = true ∧
    ({ st with ctrl := 1, fsm := .dstart } : State).ctrl.getLsbD 1 = false ∧
    heldSt.ctrl.getLsbD 2 = true ∧ heldSt.acked = false := by decide

/-- A state about to trigger a sequence with AUTO = 0 and HOLD = 0, silent for 8 ticks (DEBOUNCE_TICKS + 6). -/
def triggerSt : State := atN 8 { st with ctrl := 1, pend := 1 } 1 none

/-- PlainSequenceTiming, with its inner hypotheses. -/
theorem witness_plain_sequence : triggerSt.fsm = .idle ∧ triggerSt.ctrl.getLsbD 0 = true ∧
    triggerSt.ctrl.getLsbD 1 = false ∧ triggerSt.ctrl.getLsbD 2 = false ∧ FlagInNextTick triggerSt ∧
    NoReset (triggerSt.inst.debounceTicks.toNat + 6) triggerSt ∧
    NoWrctrl (triggerSt.inst.debounceTicks.toNat + 6) triggerSt ∧
    NoEdgeWriteAt (triggerSt.inst.debounceTicks.toNat + 4) triggerSt ∧
    NoEdgeWriteAt (triggerSt.inst.debounceTicks.toNat + 5) triggerSt :=
  ⟨by decide, by decide, by decide, by decide, ⟨0, by decide⟩, noReset_atN 8 8 _ _ _ (by decide),
    noWrctrl_atN 8 8 _ _ (by decide), noEdgeWrite_atN 6 8 _ _ (by decide), noEdgeWrite_atN 7 8 _ _ (by decide)⟩

/-- TriggerToSamplingTiming and PlainSequenceTiming: the trigger by a rise (L2.13), by a fall, and by a flag pending
before, with AUTO = 1 and HOLD = 1. -/
theorem witness_trigger :
    (({ st with ctrl := 0xF } : State).fsm = .idle ∧ ({ st with ctrl := 0xF } : State).ctrl.getLsbD 0 = true) ∧
    FlagInNextTick (atN 4 { st with ctrl := 0xF } 1 none) ∧ NoReset 4 (atN 4 { st with ctrl := 0xF } 1 none) ∧
    FlagInNextTick (atN 4 { st with ctrl := 0xF, prev := 8, edge := 8 } 0 none) ∧
    FlagInNextTick (atN 4 { st with ctrl := 0xF, pend := 8 } 0 none) :=
  ⟨by decide, ⟨0, by decide⟩, noReset_atN 4 4 _ _ _ (by decide), ⟨3, by decide⟩, ⟨3, by decide⟩⟩

/-- RedisplaySequenceTiming. -/
theorem witness_redisplay :
    ({ st with ctrl := 3, fsm := .dstart, chg := true } : State).ctrl.getLsbD 1 = true ∧
    ({ st with ctrl := 3, fsm := .dstart, chg := true } : State).ctrl.getLsbD 2 = false ∧
    NoReset 28 (atN 28 { st with ctrl := 3, fsm := .dstart, chg := true } 0 none) ∧
    NoWrctrl 28 (atN 28 { st with ctrl := 3, fsm := .dstart, chg := true } 0 none) :=
  ⟨by decide, by decide, noReset_atN 28 28 _ _ _ (by decide), noWrctrl_atN 28 28 _ _ (by decide)⟩

/-- HoldWaitsForAck. -/
theorem witness_hold : heldSt.fsm = .dhold ∧ heldSt.ctrl.getLsbD 2 = true ∧ heldSt.acked = false ∧
    NoReset 9 (atN 9 heldSt 5 none) ∧ NoWrctrl 9 (atN 9 heldSt 5 none) ∧ NoAck 9 (atN 9 heldSt 5 none) := by
  refine ⟨by decide, by decide, by decide, noReset_atN 9 9 _ _ _ (by decide), noWrctrl_atN 9 9 _ _ (by decide), ?_⟩
  intro j hj
  rw [presents_atN 9 j heldSt 5 none hj]
  decide

/-- AckReleasesHold. -/
theorem witness_ack : presents (inputAt (atN 2 heldSt 0 (some 0x9000)) 0) = .word (.legal .ack) ∧
    (inputAt (atN 2 heldSt 0 (some 0x9000)) 1).rst = false ∧ heldSt.fsm = .dhold := by decide

/-- ClearTickPostcondition. -/
theorem witness_clear : ({ st with fsm := .arm } : State).fsm = .arm ∧ NoReset 2 (atN 2 { st with fsm := .arm } 3 none) ∧
    NoEdgeWriteAt 0 (atN 2 { st with fsm := .arm } 3 none) ∧ NoEdgeWriteAt 1 (atN 2 { st with fsm := .arm } 3 none) :=
  ⟨rfl, noReset_atN 2 2 _ _ _ (by decide), noEdgeWrite_atN 0 2 _ _ (by decide), noEdgeWrite_atN 1 2 _ _ (by decide)⟩

/-- EdgeTowardPresentLevelSetsNoFlag, at both ends of its range. -/
theorem witness_edge_toward : ({ st with prev := 0b1001 } : State).prev.getLsbD 0 ≠ st.edge.getLsbD 0 ∧
    ({ st with prev := 0b1001 } : State).prev.getLsbD 3 ≠ st.edge.getLsbD 3 := by decide

/-- EnablingStartsSequenceNextTick. -/
theorem witness_enabling : ({ st with pend := 8 } : State).fsm = .idle ∧
    ({ st with pend := 8 } : State).ctrl.getLsbD 0 = false ∧ ({ st with pend := 8 } : State).pend ≠ 0 ∧
    presents (inputAt (atN 2 { st with pend := 8 } 8 (some 0x5001)) 0) = .word (.legal (.wrctrl 1)) ∧
    (1 : Nibble).getLsbD 0 = true ∧ (inputAt (atN 2 { st with pend := 8 } 8 (some 0x5001)) 1).rst = false := by decide

/-- ResetTickGivesResetValues and the second clause of ResetStateIsQuiet. -/
theorem witness_reset : (inputAt { busySt with script := [⟨true, 6, none⟩, ⟨false, 6, none⟩] } 0).rst = true ∧
    (inputAt { busySt with script := [⟨true, 6, none⟩, ⟨false, 6, none⟩] } 1).rst = false ∧
    (inputAt { busySt with script := [⟨true, 6, none⟩, ⟨false, 6, none⟩] } 1).swIn =
      (inputAt { busySt with script := [⟨true, 6, none⟩, ⟨false, 6, none⟩] } 0).swIn := by decide

/-- QuiescentStateIsFixedPoint, by each side of its disjunction. -/
theorem witness_quiescent :
    (st.eng.busy = false ∧ st.fsm = .idle ∧ st.ctrl.getLsbD 0 = false ∧
      nextInput (at1 { st with pend := 3 } 0 none) = ⟨false, st.prev, none⟩) ∧
    (({ st with ctrl := 1 } : State).pend = 0 ∧
      nextInput (at1 { st with ctrl := 1 } 0 none) = ⟨false, st.prev, none⟩) := by decide

end Sys2Proof.Tests
end

/-! ## Proofs: one tick as an equation between states

`step` answers `.next` in every state (R63), so a tick is a function on states: a reset tick, or sub-steps 1 and 2,
the command, and sub-step 4. The lemmas of this part say which registers the command and the sequencer write; the
proofs about a register's next value are read off from them. -/

namespace Sys2Proof.Machine

section Command

variable (s : State)

/-! ### What a command writes -/

/-- The state a command leaves after sub-step 3; `exec_eq_next` ties it to `exec`. -/
def execNext (i : Instr) (s : State) : State :=
  match exec i s with
  | .next t => t
  | .fault _ => s
  | .refused _ => s

@[simp] theorem execNext_nop : execNext .nop s = reply ⟨true, false, 0x00⟩ s := rfl
@[simp] theorem execNext_shift (v : Byte) : execNext (.shift v) s = hostTransfer v s := rfl
@[simp] theorem execNext_showSeg (v : Nibble) : execNext (.showSeg v) s = hostTransfer (memRead s v) s := rfl
@[simp] theorem execNext_rdsw : execNext .rdsw s = reply ⟨true, true, zext8 (pack s.input.swIn)⟩ s := rfl
@[simp] theorem execNext_wrctrl (m : Nibble) :
    execNext (.wrctrl m) s = reply ⟨true, false, 0x00⟩ { s with ctrl := m } := rfl
@[simp] theorem execNext_wredge (m : Nibble) :
    execNext (.wredge m) s = reply ⟨true, false, 0x00⟩ { s with edge := m } := rfl
@[simp] theorem execNext_arm : execNext .arm s = reply ⟨true, false, 0x00⟩ { s with edge := s.input.swIn } := rfl
@[simp] theorem execNext_clrpend (m : Nibble) :
    execNext (.clrpend m) s = reply ⟨true, false, 0x00⟩ { s with pend := s.pend &&& ~~~m } := rfl
@[simp] theorem execNext_ack :
    execNext .ack s = reply ⟨true, false, 0x00⟩ { s with chg := false, acked := true } := rfl

theorem exec_rdreg_some {r : Nibble} {name : RegName} (h : regName? r = some name) :
    exec (.rdreg r) s = .next (answer (regRead s name) s) := by
  simp [exec, execRdreg, h]

theorem exec_rdreg_none {r : Nibble} (h : regName? r = none) :
    exec (.rdreg r) s = .next (illegalCommand .reservedReg 0x4 s) := by
  simp [exec, execRdreg, h]

/-- Every command answers a next state (R63). -/
theorem exec_eq_next (i : Instr) : exec i s = .next (execNext i s) := by
  cases i with
  | rdreg r =>
    cases h : regName? r with
    | some name => simp [execNext, exec_rdreg_some s h]
    | none => simp [execNext, exec_rdreg_none s h]
  | _ => rfl

theorem execNext_eq_of_next {i : Instr} {t : State} (h : exec i s = .next t) : execNext i s = t := by
  simp [execNext, h]

/-- A transfer command writes ENG and the reply only (R56, R67). -/
theorem hostTransfer_frame (v : Byte) :
    hostTransfer v s = { s with eng := (hostTransfer v s).eng, out := (hostTransfer v s).out } := by
  cases h : s.eng.busy
  · rw [hostTransfer_free s v h]; rfl
  · rw [hostTransfer_busy s v h]; rfl

/-- RDREG writes the reply, and ERRC where its index is reserved (R104). -/
theorem execNext_rdreg_frame (r : Nibble) :
    execNext (.rdreg r) s =
      { s with errc := (execNext (.rdreg r) s).errc, out := (execNext (.rdreg r) s).out } := by
  cases h : regName? r with
  | some name => rw [execNext_eq_of_next s (exec_rdreg_some s h)]; rfl
  | none => rw [execNext_eq_of_next s (exec_rdreg_none s h)]; rfl

/-- A command writes CTRL, CHG, ACKED, EDGE, PEND, ERRC, ENG and the reply only. -/
theorem execNext_frame (i : Instr) :
    execNext i s =
      { s with
        ctrl := (execNext i s).ctrl, chg := (execNext i s).chg, acked := (execNext i s).acked
        edge := (execNext i s).edge, pend := (execNext i s).pend, errc := (execNext i s).errc
        eng := (execNext i s).eng, out := (execNext i s).out } := by
  cases i with
  | shift v => rw [execNext_shift, hostTransfer_frame]
  | showSeg v => rw [execNext_showSeg, hostTransfer_frame]
  | rdreg r => rw [execNext_rdreg_frame]
  | _ => rfl

/-- CTRL: WRCTRL is its only writer among the commands (R23). -/
theorem execNext_ctrl (i : Instr) (h : ∀ m, i ≠ .wrctrl m) : (execNext i s).ctrl = s.ctrl := by
  cases i with
  | wrctrl m => exact absurd rfl (h m)
  | shift v => rw [execNext_shift, hostTransfer_frame]
  | showSeg v => rw [execNext_showSeg, hostTransfer_frame]
  | rdreg r => rw [execNext_rdreg_frame]
  | _ => rfl

/-- CHG: ACK is its only writer among the commands (R25). -/
theorem execNext_chg (i : Instr) (h : i ≠ .ack) : (execNext i s).chg = s.chg := by
  cases i with
  | ack => exact absurd rfl h
  | shift v => rw [execNext_shift, hostTransfer_frame]
  | showSeg v => rw [execNext_showSeg, hostTransfer_frame]
  | rdreg r => rw [execNext_rdreg_frame]
  | _ => rfl

/-- PEND: CLRPEND is its only writer among the commands (R28). -/
theorem execNext_pend (i : Instr) (h : ∀ m, i ≠ .clrpend m) : (execNext i s).pend = s.pend := by
  cases i with
  | clrpend m => exact absurd rfl (h m)
  | shift v => rw [execNext_shift, hostTransfer_frame]
  | showSeg v => rw [execNext_showSeg, hostTransfer_frame]
  | rdreg r => rw [execNext_rdreg_frame]
  | _ => rfl

/-! ### Sub-step 3 -/

/-- Sub-step 3 of a tick that is no reset: the command, the illegal word's record, or neither (R39, R63). -/
def commandStep (p : Presented) (s : State) : State :=
  match p with
  | .word (.legal i) => execNext i s
  | .word (.illegal c op) => illegalCommand c op s
  | _ => noCommand s

@[simp] theorem commandStep_none : commandStep .none s = reply HostOut.none s := rfl
@[simp] theorem commandStep_legal (i : Instr) : commandStep (.word (.legal i)) s = execNext i s := rfl
@[simp] theorem commandStep_illegal (c : Cause) (op : Nibble) :
    commandStep (.word (.illegal c op)) s = illegalCommand c op s := rfl

/-- Sub-step 3 writes CTRL, CHG, ACKED, EDGE, PEND, ERRC, ENG and the reply only. -/
theorem commandStep_frame (p : Presented) :
    commandStep p s =
      { s with
        ctrl := (commandStep p s).ctrl, chg := (commandStep p s).chg, acked := (commandStep p s).acked
        edge := (commandStep p s).edge, pend := (commandStep p s).pend, errc := (commandStep p s).errc
        eng := (commandStep p s).eng, out := (commandStep p s).out } := by
  match p with
  | .word (.legal i) => rw [commandStep_legal, ← execNext_frame]
  | .word (.illegal c op) => rfl
  | .none => rfl
  | .reset => rfl

@[simp] theorem commandStep_value (p : Presented) : (commandStep p s).value = s.value := by
  rw [commandStep_frame]
@[simp] theorem commandStep_clk (p : Presented) : (commandStep p s).clk = s.clk := by
  rw [commandStep_frame]

theorem commandStep_ctrl (p : Presented) (h : ∀ m, p ≠ .word (.legal (.wrctrl m))) :
    (commandStep p s).ctrl = s.ctrl := by
  match p with
  | .word (.legal i) => exact execNext_ctrl s i fun m hi => h m (by rw [hi])
  | .word (.illegal c op) => rfl
  | .none => rfl
  | .reset => rfl

theorem commandStep_chg (p : Presented) (h : p ≠ .word (.legal .ack)) : (commandStep p s).chg = s.chg := by
  match p with
  | .word (.legal i) => exact execNext_chg s i fun hi => h (by rw [hi])
  | .word (.illegal c op) => rfl
  | .none => rfl
  | .reset => rfl

theorem commandStep_pend (p : Presented) (h : ∀ m, p ≠ .word (.legal (.clrpend m))) :
    (commandStep p s).pend = s.pend := by
  match p with
  | .word (.legal i) => exact execNext_pend s i fun m hi => h m (by rw [hi])
  | .word (.illegal c op) => rfl
  | .none => rfl
  | .reset => rfl

end Command

section Tick

variable (s : State)

/-! ### The whole tick -/

/-- A reset tick (R120). -/
theorem step_of_reset (h : presents (nextInput s) = .reset) : step s = .next (resetTick s) := by
  simp [step, h]

/-- Every other tick: sub-steps 1 and 2, the command, sub-step 4 (R39). -/
theorem step_of_not_reset (h : presents (nextInput s) ≠ .reset) :
    step s = .next (endTick (commandStep (presents (nextInput s)) (beforeCommand s))) := by
  unfold step
  match hp : presents (nextInput s) with
  | .reset => exact absurd hp h
  | .none => rfl
  | .word (.illegal c op) => rfl
  | .word (.legal i) => simp [exec_eq_next]

theorem presents_ne_reset {i : TickInput} (h : i.rst = false) : presents i ≠ .reset := by
  simp [presents_eq_reset_iff, h]

/-! ### Sub-step 4 writes ENG, DATA, CLK, LAST and EXT_SR only -/

@[simp] theorem endTick_ctrl : (endTick s).ctrl = s.ctrl := by simp [endTick]
@[simp] theorem endTick_chg : (endTick s).chg = s.chg := by simp [endTick]
@[simp] theorem endTick_value : (endTick s).value = s.value := by simp [endTick]
@[simp] theorem endTick_pend : (endTick s).pend = s.pend := by simp [endTick]

/-! ### The sequencer's writes of VALUE, CHG and PEND -/

/-- WAIT at 0 is the sampling tick (R87). -/
theorem seqStep_sampling (hw : s.fsm = .wait) (h0 : s.dbcnt = 0) : seqStep s = sampleSwitches s := by
  simp [seqStep_wait s hw, h0]

/-- Outside the sampling tick VALUE, CHG and ACKED stay; ARM writes EDGE and CLEAR clears PEND (R87, R91, R92). -/
theorem seqStep_eq_of_not_sampling (h : ¬(s.fsm = .wait ∧ s.dbcnt = 0)) :
    seqStep s =
      { s with
        fsm := (seqStep s).fsm, dbcnt := (seqStep s).dbcnt, eng := (seqStep s).eng
        edge := if s.fsm = .arm then s.value else s.edge
        pend := if s.fsm = .clear then 0 else s.pend } := by
  cases hf : s.fsm
  case idle => rw [seqStep_idle s hf]; split <;> rfl
  case wait => rw [seqStep_wait s hf, if_neg fun h0 => h ⟨hf, h0⟩]; rfl
  case dstart =>
    rw [seqStep_dstart s hf]; split
    · split <;> rfl
    · rfl
  case dshift => rw [seqStep_dshift s hf]; split <;> rfl
  case dhold => rw [seqStep_dhold s hf]; split <;> rfl
  case arm => rw [seqStep_arm s hf]; rfl
  case clear => rw [seqStep_clear s hf]; rfl

theorem seqStep_value :
    (seqStep s).value = if s.fsm = .wait ∧ s.dbcnt = 0 then s.input.swIn else s.value := by
  split <;> rename_i h
  · rw [seqStep_sampling s h.1 h.2, sampleSwitches_value]
  · rw [seqStep_eq_of_not_sampling s h]

theorem seqStep_chg :
    (seqStep s).chg = (s.chg || (decide (s.fsm = .wait) && decide (s.dbcnt = 0))) := by
  by_cases h : s.fsm = .wait ∧ s.dbcnt = 0
  · obtain ⟨hw, h0⟩ := h
    simp [seqStep_sampling s hw h0, hw, h0]
  · rw [seqStep_eq_of_not_sampling s h, ← Bool.decide_and, decide_eq_false h, Bool.or_false]

theorem seqStep_pend : (seqStep s).pend = if s.fsm = .clear then 0 else s.pend := by
  by_cases h : s.fsm = .wait ∧ s.dbcnt = 0
  · obtain ⟨hw, h0⟩ := h
    simp [seqStep_sampling s hw h0, hw]
  · rw [seqStep_eq_of_not_sampling s h]

/-! ### Sub-steps 1 and 2 together -/

@[simp] theorem beforeCommand_ctrl : (beforeCommand s).ctrl = s.ctrl := by simp [beforeCommand]
@[simp] theorem beforeCommand_clk : (beforeCommand s).clk = s.clk := by simp [beforeCommand]

theorem beforeCommand_value :
    (beforeCommand s).value = if s.fsm = .wait ∧ s.dbcnt = 0 then (nextInput s).swIn else s.value := by
  rw [beforeCommand_eq, seqStep_value]
  rfl

theorem beforeCommand_chg :
    (beforeCommand s).chg = (s.chg || (decide (s.fsm = .wait) && decide (s.dbcnt = 0))) := by
  rw [beforeCommand_eq, seqStep_chg]
  rfl

theorem beforeCommand_pend :
    (beforeCommand s).pend =
      if s.fsm = .clear then 0 else s.pend ||| armedEdges s.prev (nextInput s).swIn s.edge := by
  rw [beforeCommand_eq, seqStep_pend]
  rfl

end Tick

/-! ### Single bits and zero extension -/

/-- Input k makes its armed transition: a rise where EDGE is 0, a fall where EDGE is 1 (R84). -/
theorem armedEdges_getLsbD (prev l edge : Nibble) {k : Nat} (hk : k < 4) :
    (armedEdges prev l edge).getLsbD k =
      ((!prev.getLsbD k && l.getLsbD k && !edge.getLsbD k) ||
        (prev.getLsbD k && !l.getLsbD k && edge.getLsbD k)) := by
  simp [armedEdges, hk]

theorem beforeCommand_pend_getLsbD (s : State) {k : Nat} (hk : k < 4) :
    (beforeCommand s).pend.getLsbD k =
      ((s.pend.getLsbD k ||
        ((!s.prev.getLsbD k && (nextInput s).swIn.getLsbD k && !s.edge.getLsbD k) ||
          (s.prev.getLsbD k && !(nextInput s).swIn.getLsbD k && s.edge.getLsbD k))) &&
        !decide (s.fsm = .clear)) := by
  rw [beforeCommand_pend]
  split <;> rename_i h
  · simp [h]
  · rw [BitVec.getLsbD_or, armedEdges_getLsbD _ _ _ hk, decide_eq_false h, Bool.not_false, Bool.and_true]

/-- zext_8 puts four zero bits above the value (R14). -/
theorem zext8_eq_append (v : Nibble) : zext8 v = 0#4 ++ v := by
  rw [zext8, BitVec.zeroExtend, BitVec.setWidth_eq_append (by decide)]
  rfl

end Sys2Proof.Machine

/-! ## Proofs: the registers of 10_state.md -/

namespace Sys2Proof.Proofs

open Sys2Proof Sys2Proof.Machine

/-- Settles O2: the state after sub-step 3 is `commandStep` of what the tick presents. -/
theorem tickRunsSubStepsInOrder : Obligations.TickRunsSubStepsInOrder := by
  intro s
  refine ⟨fun hr => step_of_reset s (presents_reset _ hr), fun hr => ?_⟩
  refine ⟨commandStep (presents (nextInput s)) (beforeCommand s), _,
    step_of_not_reset s (presents_ne_reset hr), ?_, rfl, ?_, ?_, ?_⟩
  · rw [endTick_eq, commandStep_clk, beforeCommand_clk]
  · intro hc
    rw [presents_none _ hr hc]
    rfl
  · intro w i hc hd
    rw [presents_word _ w hr hc, hd]
    exact exec_eq_next _ i
  · intro w c op hc hd
    rw [presents_word _ w hr hc, hd]
    rfl

/-- Settles O28: sub-steps 3 and 4 leave VALUE as the sequencer's stage left it. -/
theorem valueNextValue : Obligations.ValueNextValue := by
  refine ⟨rfl, fun s => zext8_eq_append s.value, fun s => ?_⟩
  cases hr : (nextInput s).rst
  · refine ⟨_, step_of_not_reset s (presents_ne_reset hr), by simp, fun _ => ?_⟩
    rw [endTick_value, commandStep_value, beforeCommand_value]
  · exact ⟨_, step_of_reset s (presents_reset _ hr), fun _ => rfl, by simp⟩

/-- Settles O29: ACK clears the CHG that the sampling tick of the same tick sets; no other command writes it. -/
theorem chgNextValue : Obligations.ChgNextValue := by
  refine ⟨rfl, fun s => ?_⟩
  by_cases hr : presents (nextInput s) = .reset
  · exact ⟨_, step_of_reset s hr, by rw [hr]; rfl⟩
  · refine ⟨_, step_of_not_reset s hr, ?_⟩
    rw [endTick_chg]
    split
    case h_1 h => exact absurd h hr
    case h_2 h => rw [h]; rfl
    case h_3 hack => rw [commandStep_chg _ _ hack, beforeCommand_chg]

/-- Settles O31: CLRPEND masks what the edge detector and the sequencer left; no other command writes PEND. -/
theorem pendNextValue : Obligations.PendNextValue := by
  refine ⟨rfl, fun s => zext8_eq_append s.pend, fun s => ?_⟩
  by_cases hr : presents (nextInput s) = .reset
  · refine ⟨_, step_of_reset s hr, fun k _ => ?_⟩
    rw [hr]
    exact BitVec.getLsbD_zero
  · refine ⟨_, step_of_not_reset s hr, fun k hk => ?_⟩
    intro old new armed seen
    have hseen : (beforeCommand s).pend.getLsbD k = seen := beforeCommand_pend_getLsbD s hk
    rw [endTick_pend]
    split
    case h_1 h => exact absurd h hr
    case h_2 m h =>
      rw [h, commandStep_legal, execNext_clrpend, reply_pend, BitVec.getLsbD_and, hseen]
      simp [hk]
    case h_3 hclr => rw [commandStep_pend _ _ hclr, hseen]

/-- Settles O54: with CHG = 1 only ACK writes CHG, and only WRCTRL writes CIE. -/
theorem irqStaysUntilAcknowledged : Obligations.IrqStaysUntilAcknowledged := by
  refine ⟨rfl, fun s => ⟨rfl, fun hirq => ?_⟩⟩
  obtain ⟨hchg, hcie⟩ : s.chg = true ∧ s.cie = true := by simpa [State.irq] using hirq
  have hbefore : (beforeCommand s).chg = true := by simp [beforeCommand_chg, hchg]
  by_cases hr : presents (nextInput s) = .reset
  · exact ⟨_, step_of_reset s hr, by rw [hr]; rfl⟩
  · refine ⟨_, step_of_not_reset s hr, ?_⟩
    split
    case h_1 h => exact absurd h hr
    case h_2 h => simp [State.irq, h]
    case h_3 m h => simp [State.irq, State.cie, h, hbefore]
    case h_4 hack hctrl =>
      simpa [State.irq, State.cie, commandStep_chg _ _ hack, commandStep_ctrl _ _ hctrl, hbefore] using hcie

end Sys2Proof.Proofs

/-! ## Proofs: the memory of 20_memory.md

The segment ROM lies in the instance parameters (R37), so R43 is the frame law of that field for every part of a tick. -/

namespace Sys2Proof.Machine

section Memory

variable (s : State)

/-! ### No part of a tick writes the instance -/

@[simp] theorem beforeCommand_inst : (beforeCommand s).inst = s.inst := by simp [beforeCommand_eq]
@[simp] theorem commandStep_inst (p : Presented) : (commandStep p s).inst = s.inst := by
  rw [commandStep_frame]
@[simp] theorem endTick_inst : (endTick s).inst = s.inst := by simp [endTick_eq]
@[simp] theorem resetTick_inst : (resetTick s).inst = s.inst := by simp [resetTick_eq]

/-- Every tick answers a next state with the same instance parameters (R7, R9, R37). -/
theorem step_keeps_inst : ∃ t, step s = .next t ∧ t.inst = s.inst := by
  by_cases hr : presents (nextInput s) = .reset
  · exact ⟨_, step_of_reset s hr, resetTick_inst s⟩
  · refine ⟨_, step_of_not_reset s hr, ?_⟩
    rw [endTick_inst, commandStep_inst, beforeCommand_inst]

end Memory

end Sys2Proof.Machine

namespace Sys2Proof.Proofs

open Sys2Proof Sys2Proof.Machine

/-- Settles O57: the ROM is read through the instance only, which no tick writes. -/
theorem segmentRomNeverWritten : Obligations.SegmentRomNeverWritten := by
  intro s
  obtain ⟨t, hstep, hinst⟩ := step_keeps_inst s
  exact ⟨t, hstep, memRead_congr s t hinst⟩

end Sys2Proof.Proofs

/-! ## Proofs: the encoding of 30_encoding.md

A row of the opcode map compares the opcode and the must-be-zero bits of one format (R59, R61); the other bits of the
word are the command's operand (R60). So a word is legal exactly when it has a command's opcode, its format's
must-be-zero bits are 0, and the command, with the operand read from the word, is well-formed. -/

namespace Sys2Proof

/-! ### The masks of the four formats -/

/-- The lowest must-be-zero bit of a format (R59). -/
def Format.mbzStart : Format → Nat
  | .z | .r => 0
  | .i8 => 8
  | .i4 => 4

/-- How many must-be-zero bits a format has; they lie side by side (R59). -/
def Format.mbzLength : Format → Nat
  | .z => 12
  | .i8 => 4
  | .i4 | .r => 8

/-- The mask in the rows of a format (R61). -/
def Format.mask : Format → Word
  | .z => 0xFFFF
  | .i8 => 0xFF00
  | .i4 => 0xFFF0
  | .r => 0xF0FF

theorem Format.mbz_le (f : Format) : f.mbzStart + f.mbzLength ≤ 12 := by
  cases f <;> decide

theorem Format.mask_getLsbD (f : Format) :
    ∀ i < 16, f.mask.getLsbD i = decide (12 ≤ i ∨ f.mbzStart ≤ i ∧ i < f.mbzStart + f.mbzLength) := by
  cases f <;> decide

theorem mbzClear_iff (w : Word) (f : Format) :
    mbzClear w f = true ↔ ∀ j < f.mbzLength, w.getLsbD (f.mbzStart + j) = false := by
  have h : mbzClear w f = true ↔ w.extractLsb' f.mbzStart f.mbzLength = 0#f.mbzLength := by
    cases f <;> exact beq_iff_eq
  simp +contextual [h, BitVec.eq_of_getLsbD_eq_iff]

theorem opField_eq_iff (w : Word) (op : Nibble) :
    opField w = op ↔ ∀ j < 4, w.getLsbD (12 + j) = op.getLsbD j := by
  simp +contextual [opField, BitVec.eq_of_getLsbD_eq_iff]

theorem wordZ_getLsbD (op : Nibble) (i : Nat) :
    (wordZ op).getLsbD i = if i < 12 then false else op.getLsbD (i - 12) := by
  rw [wordZ, BitVec.getLsbD_append, BitVec.getLsbD_zero]

/-- A word agrees with a row under the row's mask exactly when it has the row's opcode and the must-be-zero bits of the
row's format are 0 (R61). -/
theorem and_mask_eq_wordZ_iff (w : Word) (f : Format) (op : Nibble) :
    w &&& f.mask = wordZ op ↔ opField w = op ∧ mbzClear w f = true := by
  have hle := f.mbz_le
  rw [opField_eq_iff, mbzClear_iff]
  constructor
  · intro h
    have hbit (i : Nat) (hi : i < 16) : (w &&& f.mask).getLsbD i = (wordZ op).getLsbD i := by rw [h]
    refine ⟨fun j hj => ?_, fun j hj => ?_⟩
    · simpa [f.mask_getLsbD _ (show 12 + j < 16 by omega), wordZ_getLsbD] using hbit (12 + j) (by omega)
    · simpa [f.mask_getLsbD _ (show f.mbzStart + j < 16 by omega), wordZ_getLsbD, hj,
        show f.mbzStart + j < 12 by omega] using hbit (f.mbzStart + j) (by omega)
  · rintro ⟨hop, hmbz⟩
    refine BitVec.eq_of_getLsbD_eq fun i hi => ?_
    rw [BitVec.getLsbD_and, f.mask_getLsbD i hi, wordZ_getLsbD]
    by_cases h12 : i < 12
    · by_cases hm : f.mbzStart ≤ i ∧ i < f.mbzStart + f.mbzLength
      · have hclear := hmbz (i - f.mbzStart) (by omega)
        rw [Nat.add_sub_of_le hm.1] at hclear
        simp [hclear, h12]
      · simp [h12, hm, show ¬12 ≤ i by omega]
    · have hsame := hop (i - 12) (by omega)
      rw [Nat.add_sub_of_le (Nat.le_of_not_lt h12)] at hsame
      simp [hsame, h12, Nat.le_of_not_lt h12]

/-! ### The rows of the commands -/

/-- The format of a command's word (R59, R61). -/
def Instr.format : Instr → Format
  | .nop | .rdsw | .arm | .ack => .z
  | .shift _ => .i8
  | .showSeg _ | .wrctrl _ | .wredge _ | .clrpend _ => .i4
  | .rdreg _ => .r

theorem Instr.row_mask (i : Instr) : i.row.mask = i.format.mask := by
  cases i <;> rfl

theorem Instr.row_matchBits (i : Instr) : i.row.matchBits = wordZ i.opcode := by
  cases i <;> simp [Instr.row, Instr.opcode, wordZ]

/-- A word agrees with the row of a command exactly when opcode and must-be-zero bits are that command's (R61). -/
theorem and_row_mask_iff (w : Word) (i : Instr) :
    w &&& i.row.mask = i.row.matchBits ↔ opField w = i.opcode ∧ mbzClear w i.format = true := by
  rw [i.row_mask, i.row_matchBits, and_mask_eq_wordZ_iff]

/-- The rows of the opcode map are the rows of the commands (R61). -/
theorem mem_opcodeMap_iff (row : OpRow) : row ∈ opcodeMap ↔ ∃ i : Instr, i.row = row := by
  constructor
  · intro h
    simp only [opcodeMap, List.mem_cons, List.not_mem_nil, or_false] at h
    rcases h with h | h | h | h | h | h | h | h | h | h <;> exact ⟨_, h.symm⟩
  · rintro ⟨i, rfl⟩
    cases i <;> simp [opcodeMap, Instr.row]

/-! ### The command a word holds -/

/-- The command of the same row with its operand taken from a word's field (R60). -/
def Instr.withOperandOf (w : Word) : Instr → Instr
  | .nop => .nop
  | .shift _ => .shift (imm8Field w)
  | .showSeg _ => .showSeg (imm4Field w)
  | .rdsw => .rdsw
  | .rdreg _ => .rdreg (regField w)
  | .wrctrl _ => .wrctrl (imm4Field w)
  | .wredge _ => .wredge (imm4Field w)
  | .arm => .arm
  | .clrpend _ => .clrpend (imm4Field w)
  | .ack => .ack

@[simp] theorem Instr.withOperandOf_row (w : Word) (i : Instr) : (i.withOperandOf w).row = i.row := by
  cases i <;> rfl

@[simp] theorem Instr.withOperandOf_withOperandOf (w : Word) (i : Instr) :
    (i.withOperandOf w).withOperandOf w = i.withOperandOf w := by
  cases i <;> rfl

/-- RDREG is the only command whose operand may be reserved (R62). -/
theorem Instr.wellFormed_withOperandOf_iff (w : Word) (i : Instr) :
    (i.withOperandOf w).wellFormed = true ↔ (i.row.matchBits = 0x4000 → w.extractLsb' 8 4 ≤ 7#4) := by
  cases i with
  | rdreg r =>
    have hle : regField w < 8#4 ↔ regField w ≤ 7#4 := by bv_omega
    simpa [Instr.withOperandOf, Instr.wellFormed, Instr.row, regField] using hle
  | _ => simp [Instr.withOperandOf, Instr.wellFormed, Instr.row]

theorem checkMbz_eq_legal_iff (w : Word) (f : Format) (i j : Instr) :
    checkMbz w f i = .legal j ↔ mbzClear w f = true ∧ i = j := by
  cases h : mbzClear w f
  · simp [checkMbz_set w f i h]
  · simp [checkMbz_clear w f i h]

/-- The decoder on a word with the opcode of a command (R63). -/
theorem decode_of_opField (w : Word) (i : Instr) (h : opField w = i.opcode) :
    decode w =
      if (i.withOperandOf w).wellFormed then checkMbz w i.format (i.withOperandOf w)
      else .illegal .reservedReg (opField w) := by
  cases i with
  | rdreg r =>
    by_cases hr : regField w < 8#4
    · simp [decode, h, Instr.opcode, Instr.withOperandOf, Instr.wellFormed, Instr.format, hr, BitVec.not_le.mpr hr]
    · simp [decode, h, Instr.opcode, Instr.withOperandOf, Instr.wellFormed, hr, BitVec.not_lt.mp hr]
  | _ => simp [decode, h, Instr.opcode, Instr.withOperandOf, Instr.wellFormed, Instr.format]

/-- A legal word has its command's opcode and its operand (R60, R61). -/
theorem opField_of_decode {w : Word} {i : Instr} (h : decode w = .legal i) :
    opField w = i.opcode ∧ i.withOperandOf w = i := by
  unfold decode at h
  split at h
  case h_5 hop =>
    split at h
    · simp at h
    · obtain ⟨-, rfl⟩ := (checkMbz_eq_legal_iff ..).mp h
      exact ⟨BitVec.eq_of_toNat_eq hop, rfl⟩
  case h_11 => simp at h
  all_goals
    rename_i hop
    obtain ⟨-, rfl⟩ := (checkMbz_eq_legal_iff ..).mp h
    exact ⟨BitVec.eq_of_toNat_eq hop, rfl⟩

/-- Decoding by the opcode map: the word agrees with the command's row, RDREG's index is not reserved, and the
command's operand is the word's (R60, R61). -/
theorem decode_eq_legal_iff (w : Word) (i : Instr) :
    decode w = .legal i ↔
      w &&& i.row.mask = i.row.matchBits ∧ (i.row.matchBits = 0x4000 → w.extractLsb' 8 4 ≤ 7#4) ∧
        i.withOperandOf w = i := by
  rw [and_row_mask_iff, ← i.wellFormed_withOperandOf_iff w]
  constructor
  · intro h
    obtain ⟨hop, hoperand⟩ := opField_of_decode h
    rw [decode_of_opField w i hop] at h
    split at h <;> rename_i hwf
    · exact ⟨⟨hop, ((checkMbz_eq_legal_iff ..).mp h).1⟩, hwf, hoperand⟩
    · simp at h
  · rintro ⟨⟨hop, hmbz⟩, hwf, hoperand⟩
    rw [decode_of_opField w i hop, if_pos hwf, hoperand, checkMbz_clear w _ i hmbz]

end Sys2Proof

namespace Sys2Proof.Machine

/-! ### The command port and the rest of a tick (R56)

A tick reads the command port in sub-step 3 only. So up to the port itself, the state around sub-step 3 is that of the
tick in which the host presents nothing. -/

section Port

variable (s : State) (i : TickInput)

/-- The same state with this on the input ports. -/
def State.withInput : State := { s with input := i }

/-- The edge detector reads the levels only (R84). -/
theorem edgeDetect_withInput (h : i.swIn = s.input.swIn) :
    edgeDetect (s.withInput i) = (edgeDetect s).withInput i := by
  simp [edgeDetect, State.withInput, h]

/-- The sequencer reads the levels only (R86 to R92). -/
theorem seqStep_withInput (h : i.swIn = s.input.swIn) : seqStep (s.withInput i) = (seqStep s).withInput i := by
  cases hf : s.fsm
  case idle => rw [seqStep_idle s hf, seqStep_idle (s.withInput i) hf, apply_ite (State.withInput · i)]; rfl
  case wait =>
    have hsample : sampleSwitches (s.withInput i) = (sampleSwitches s).withInput i := by
      simp [sampleSwitches, State.withInput, h]
    rw [seqStep_wait s hf, seqStep_wait (s.withInput i) hf, hsample, apply_ite (State.withInput · i)]; rfl
  case dstart =>
    rw [seqStep_dstart s hf, seqStep_dstart (s.withInput i) hf, apply_ite (State.withInput · i),
      apply_ite (State.withInput · i)]
    rfl
  case dshift => rw [seqStep_dshift s hf, seqStep_dshift (s.withInput i) hf, apply_ite (State.withInput · i)]; rfl
  case dhold => rw [seqStep_dhold s hf, seqStep_dhold (s.withInput i) hf, apply_ite (State.withInput · i)]; rfl
  case arm => rw [seqStep_arm s hf, seqStep_arm (s.withInput i) hf]; rfl
  case clear => rw [seqStep_clear s hf, seqStep_clear (s.withInput i) hf]; rfl

/-- The engine does not read the input ports (R68 to R71). -/
theorem engineStep_withInput : engineStep (s.withInput i) = (engineStep s).withInput i := by
  cases hb : s.eng.busy
  · rw [engineStep_idle s hb, engineStep_idle (s.withInput i) hb]
  · cases hp : s.eng.phase
    case setup => rw [engineStep_setup s hb hp, engineStep_setup (s.withInput i) hb hp]; rfl
    case high => rw [engineStep_high s hb hp, engineStep_high (s.withInput i) hb hp]; rfl
    case low =>
      by_cases hn : s.eng.n = 7
      · rw [engineStep_low_last s hb hp hn, engineStep_low_last (s.withInput i) hb hp hn]; rfl
      · rw [engineStep_low_more s hb hp hn, engineStep_low_more (s.withInput i) hb hp hn]; rfl

/-- The external shift register does not read the input ports (R78). -/
theorem extShift_withInput (b : Bool) : extShift b (s.withInput i) = (extShift b s).withInput i := by
  rw [extShift, extShift, apply_ite (State.withInput · i)]
  rfl

/-- Sub-step 4 does not read the input ports (R68 to R71, R78). -/
theorem endTick_withInput : endTick (s.withInput i) = (endTick s).withInput i := by
  rw [endTick_eq, endTick_eq, engineStep_withInput, extShift_withInput]
  rfl

/-- Before sub-step 3 a tick with a word differs from the tick with no command in the input ports only (R39). -/
theorem beforeCommand_presenting (c : Option Word) :
    beforeCommand (s.presenting c) =
      (beforeCommand (s.presenting none)).withInput (nextInput (s.presenting c)) := by
  have htake : takeInput (s.presenting c) =
      (takeInput (s.presenting none)).withInput (nextInput (s.presenting c)) := rfl
  have hlevels : (nextInput (s.presenting c)).swIn = (takeInput (s.presenting none)).input.swIn := rfl
  rw [beforeCommand_eq, htake, edgeDetect_withInput _ _ hlevels,
    seqStep_withInput (edgeDetect _) _ hlevels, ← beforeCommand_eq]

theorem step_presenting_word (w : Word) :
    step (s.presenting (some w)) =
      .next (endTick (commandStep (.word (decode w)) (beforeCommand (s.presenting (some w))))) :=
  step_of_not_reset (s.presenting (some w)) (presents_ne_reset rfl)

theorem step_presenting_none :
    step (s.presenting none) = .next (endTick (reply HostOut.none (beforeCommand (s.presenting none)))) :=
  step_of_not_reset (s.presenting none) (presents_ne_reset rfl)

/-- A tick whose word is answered like no command is, up to the input ports, the tick with no command (R56). -/
theorem endTick_noReply_presenting (c : Option Word) :
    ∃ u, step (s.presenting none) = .next u ∧
      endTick (reply HostOut.none (beforeCommand (s.presenting c))) =
        u.withInput (nextInput (s.presenting c)) := by
  refine ⟨_, step_presenting_none s, ?_⟩
  rw [beforeCommand_presenting, ← endTick_withInput]
  rfl

end Port

/-! ### Which words stall (R56, R63) -/

section Stall

variable (s : State)

/-- A legal SHIFT or SHOW. -/
def isTransfer : Decoded → Bool
  | .legal (.shift _) | .legal (.showSeg _) => true
  | _ => false

theorem isTransfer_iff (d : Decoded) :
    isTransfer d = true ↔ (∃ v, d = .legal (.shift v)) ∨ ∃ v, d = .legal (.showSeg v) := by
  match d with
  | .illegal c op => simp [isTransfer]
  | .legal i => cases i <;> simp [isTransfer]

theorem hostTransfer_accept (v : Byte) : (hostTransfer v s).out.accept = !s.eng.busy := by
  cases hb : s.eng.busy
  · rw [hostTransfer_free s v hb]; rfl
  · rw [hostTransfer_busy s v hb]; rfl

/-- A word is taken unless it is a transfer and the engine is busy (R56, R63). -/
theorem commandStep_word_accept (d : Decoded) :
    (commandStep (.word d) s).out.accept = !(isTransfer d && s.eng.busy) := by
  match d with
  | .illegal c op => rfl
  | .legal i =>
    rw [commandStep_legal]
    cases i with
    | shift v => exact hostTransfer_accept s v
    | showSeg v => exact hostTransfer_accept s (memRead s v)
    | rdreg r =>
      cases hr : regName? r with
      | some name => rw [execNext_eq_of_next s (exec_rdreg_some s hr)]; rfl
      | none => rw [execNext_eq_of_next s (exec_rdreg_none s hr)]; rfl
    | _ => rfl

/-- A transfer that finds the engine busy is answered like no command (R56). -/
theorem commandStep_word_stalled (d : Decoded) (hd : isTransfer d = true) (hb : s.eng.busy = true) :
    commandStep (.word d) s = reply HostOut.none s := by
  rcases (isTransfer_iff d).mp hd with ⟨v, rfl⟩ | ⟨v, rfl⟩
  · rw [commandStep_legal, execNext_shift, hostTransfer_busy s v hb]
  · rw [commandStep_legal, execNext_showSeg, hostTransfer_busy s (memRead s v) hb]

@[simp] theorem endTick_out : (endTick s).out = s.out := by simp [endTick_eq]

end Stall

end Sys2Proof.Machine
namespace Sys2Proof.Proofs

open Sys2Proof Sys2Proof.Machine

/-- Settles O5: a row of the map is a command's row, and the word that agrees with it decodes to that command with the
operand read from the word. -/
theorem decodeMatchesOpcodeMap : Obligations.DecodeMatchesOpcodeMap := by
  refine fun w => ⟨fun i h => ?_, fun row hrow hmatch hreg => ?_⟩
  · obtain ⟨hmatch, hreg, -⟩ := (decode_eq_legal_iff w i).mp h
    exact ⟨hmatch, (mem_opcodeMap_iff i.row).mpr ⟨i, rfl⟩, hreg⟩
  · obtain ⟨i, rfl⟩ := (mem_opcodeMap_iff row).mp hrow
    have hlegal : decode w = .legal (i.withOperandOf w) := by
      rw [decode_eq_legal_iff, Instr.withOperandOf_row, Instr.withOperandOf_withOperandOf]
      exact ⟨hmatch, hreg, rfl⟩
    exact ⟨i.withOperandOf w, hlegal, i.withOperandOf_row w⟩

/-- Settles O24: only a transfer that finds the engine busy is not taken; sub-step 3 then answers like no command. -/
theorem onlyBusyTransferWordsStall : Obligations.OnlyBusyTransferWordsStall := by
  intro s w
  have hstall : (commandStep (.word (decode w)) (beforeCommand (s.presenting (some w)))).out.accept = false ↔
      isTransfer (decode w) = true ∧ (beforeCommand (s.presenting (some w))).eng.busy = true := by
    rw [commandStep_word_accept, Bool.not_eq_false', Bool.and_eq_true]
  refine ⟨_, step_presenting_word s w, ?_, fun haccept => ?_⟩
  · rw [endTick_out, hstall, isTransfer_iff]
  · rw [endTick_out] at haccept
    obtain ⟨hd, hb⟩ := hstall.mp haccept
    obtain ⟨u, hu, heq⟩ := endTick_noReply_presenting s (some w)
    refine ⟨u, hu, ?_⟩
    rw [commandStep_word_stalled _ _ hd hb, heq]
    rfl

end Sys2Proof.Proofs

/-! ## Proofs: the shift driver of 40_shift_driver.md

EXT_SR lies outside HBGIO: no sub-step writes it, and at the end of the tick it follows the CLK and DATA that sub-step 4
left (R78). So its one-tick law is that of `extShift`, carried through the sub-steps before it. -/

namespace Sys2Proof.Machine

section ExternalRegister

variable (s : State)

@[simp] theorem beforeCommand_extSr : (beforeCommand s).extSr = s.extSr := by simp [beforeCommand_eq]
@[simp] theorem commandStep_extSr (p : Presented) : (commandStep p s).extSr = s.extSr := by
  rw [commandStep_frame]
@[simp] theorem resetTick_extSr : (resetTick s).extSr = s.extSr := by simp [resetTick_eq]
@[simp] theorem resetTick_clk : (resetTick s).clk = false := rfl

@[simp] theorem endTick_clk : (endTick s).clk = (engineStep s).clk := by simp [endTick_eq]
@[simp] theorem endTick_data : (endTick s).data = (engineStep s).data := by simp [endTick_eq]

/-- Where CLK rose, Q0 takes DATA and each other output takes the one below it (R78). -/
theorem extShift_rise_getLsbD (h : s.clk = true) {k : Nat} (hk : k < 8) :
    (extShift false s).extSr.getLsbD k = if k = 0 then s.data else s.extSr.getLsbD (k - 1) := by
  rw [extShift_rise s h, BitVec.getLsbD_append]
  cases k with
  | zero => simp
  | succ j => simp [show j < 7 by omega]

theorem endTick_extSr_getLsbD_of_rise (h : s.clk = false) (hrise : (endTick s).clk = true) {k : Nat} (hk : k < 8) :
    (endTick s).extSr.getLsbD k = if k = 0 then (endTick s).data else s.extSr.getLsbD (k - 1) := by
  rw [endTick_clk] at hrise
  rw [endTick_data, endTick_eq, h, extShift_rise_getLsbD _ hrise hk, engineStep_extSr]

theorem endTick_extSr_of_no_rise (h : s.clk = true ∨ (endTick s).clk = false) : (endTick s).extSr = s.extSr := by
  rw [endTick_clk] at h
  rw [endTick_eq, extShift_no_rise _ _ h, engineStep_extSr]

end ExternalRegister

/-- Entries 1 to 14 of the segment ROM are the open ones, entry k at position k - 1 (R9, R42). -/
theorem memRead_open (s : State) (k : Nibble) (h : 1 ≤ k.toNat ∧ k.toNat ≤ 14) :
    memRead s k = s.inst.segOpen[k.toNat - 1]'(Nat.sub_one_lt_of_le h.1 h.2) := by
  obtain ⟨hlow, hhigh⟩ := h
  rw [memRead, segTable, dif_neg (by omega), dif_neg (by omega)]

end Sys2Proof.Machine

namespace Sys2Proof.Proofs

open Sys2Proof Sys2Proof.Machine

/-- Settles O41: a reset tick leaves CLK at 0 and EXT_SR alone; in every other tick sub-steps 1 to 3 leave both alone. -/
theorem externalRegisterNextValue : Obligations.ExternalRegisterNextValue := by
  intro s
  by_cases hr : presents (nextInput s) = .reset
  · exact ⟨_, step_of_reset s hr, fun _ hrise => absurd hrise (by simp), fun _ => resetTick_extSr s⟩
  · refine ⟨_, step_of_not_reset s hr, fun hlow hrise k hk => ?_, fun hno => ?_⟩
    · rw [endTick_extSr_getLsbD_of_rise _ (by simpa using hlow) hrise hk, commandStep_extSr, beforeCommand_extSr]
    · rw [endTick_extSr_of_no_rise _ (by rwa [commandStep_clk, beforeCommand_clk]), commandStep_extSr,
        beforeCommand_extSr]

/-- Settles O11: SHOW is the host transfer of the ROM entry at its index. -/
theorem showLoadsSegmentPattern : Obligations.ShowLoadsSegmentPattern := by
  refine ⟨fun k s hfree => ?_, fun s => ⟨segTable_zero s.inst, segTable_fifteen s.inst, memRead_open s⟩⟩
  rw [exec_eq_next, execNext_showSeg, hostTransfer_free s _ hfree]
  rfl

/-- Settles O33: the phases of the engine step, LOW with and without a next bit. -/
theorem engineStepRules : Obligations.EngineStepRules := by
  refine fun s => ⟨engineStep_idle s, fun hb hp => ?_, fun hb hp => ?_, fun hb hp hn => ?_, fun hb hp hn => ?_⟩
  · simp [engineStep_setup s hb hp, hb]
  · simp [engineStep_high s hb hp, hb]
  · refine ⟨s.eng.n + 1, by bv_omega, ?_⟩
    simp [engineStep_low_more s hb hp (by bv_omega), hb]
  · rw [engineStep_low_last s hb hp (by bv_omega)]

end Sys2Proof.Proofs

/-! ## Proofs: the edge debouncer of 42_edge_debounce.md -/

namespace Sys2Proof.Machine

/-- Input k's pending flag after the edge detector: kept, or set by the armed transition (R84). -/
theorem edgeDetect_pend_getLsbD (s : State) {k : Nat} (hk : k < 4) :
    (edgeDetect s).pend.getLsbD k =
      (s.pend.getLsbD k ||
        ((!s.prev.getLsbD k && s.input.swIn.getLsbD k && !s.edge.getLsbD k) ||
          (s.prev.getLsbD k && !s.input.swIn.getLsbD k && s.edge.getLsbD k))) := by
  rw [edgeDetect_pend, BitVec.getLsbD_or, armedEdges_getLsbD _ _ _ hk]

/-- The sequence starts with EN = 1 and a pending flag (R86). -/
theorem seqStep_idle_eq_ite (s : State) (h : s.fsm = .idle) :
    seqStep s = if s.ctrl.getLsbD 0 = true ∧ s.pend ≠ 0 then enterSequence s else s := by
  rw [seqStep_idle s h]
  exact if_congr (by simp [State.en]) rfl rfl

/-- DHOLD waits with HOLD = 1 and no ACK (R90). -/
theorem seqStep_dhold_eq_ite (s : State) (h : s.fsm = .dhold) :
    seqStep s = if s.ctrl.getLsbD 2 = true ∧ s.acked = false then s else { s with fsm := .arm } := by
  rw [seqStep_dhold s h]
  exact if_congr (by simp [State.hold]) rfl rfl

end Sys2Proof.Machine

namespace Sys2Proof.Proofs

open Sys2Proof Sys2Proof.Machine

/-- Settles O43: two rows of the table are the armed transitions, in the other four the detector sets nothing. -/
theorem edgeDetectorTruthTable : Obligations.EdgeDetectorTruthTable := by
  refine fun s => ⟨rfl, fun k hk => ?_⟩
  rw [edgeDetect_pend_getLsbD s hk]
  split
  case h_1 hprev hlevel hedge => simp [hprev, hlevel, hedge]
  case h_2 hprev hlevel hedge => simp [hprev, hlevel, hedge]
  case h_3 hprev hlevel => simp [hprev, hlevel]
  case h_4 hprev hlevel => simp [hprev, hlevel]
  case h_5 hprev hlevel hedge => simp [hprev, hlevel, hedge]
  case h_6 hprev hlevel hedge => simp [hprev, hlevel, hedge]

/-- Settles O44: one equation per stage; WAIT splits on DBCNT, DSTART on AUTO and the engine. -/
theorem sequencerStageRules : Obligations.SequencerStageRules := by
  refine fun s => ⟨seqStep_idle_eq_ite s, seqStep_sampling s, fun hwait hcount => ?_,
    fun hstart (hauto : s.auto = false) => ?_, fun hstart (hauto : s.auto = true) hfree => ?_,
    fun hstart (hauto : s.auto = true) hbusy => ?_, seqStep_dshift s, seqStep_dhold_eq_ite s, seqStep_arm s,
    seqStep_clear s⟩
  · exact ⟨s.dbcnt - 1, by bv_omega, by rw [seqStep_wait s hwait, if_neg hcount]⟩
  · simp [seqStep_dstart s hstart, hauto]
  · simp [seqStep_dstart s hstart, hauto, hfree]
  · simp [seqStep_dstart s hstart, hauto, hbusy]

end Sys2Proof.Proofs

/-! ## Proofs: the illegal commands of 60_exceptions.md

An illegal word is answered like no command, but for the record in ERRC and the reply; sub-step 4 reads neither. -/

namespace Sys2Proof.Machine

section ErrorRecord

variable (s : State)

/-- The same state with this in ERRC and this on the output ports. -/
def State.withRecord (e : Byte) (o : HostOut) : State := { s with errc := e, out := o }

/-- The engine step does not read ERRC or the output ports (R68 to R71). -/
theorem engineStep_withRecord (e : Byte) (o : HostOut) :
    engineStep (s.withRecord e o) = (engineStep s).withRecord e o := by
  cases hb : s.eng.busy
  · rw [engineStep_idle s hb, engineStep_idle (s.withRecord e o) hb]
  · cases hp : s.eng.phase
    case setup => rw [engineStep_setup s hb hp, engineStep_setup (s.withRecord e o) hb hp]; rfl
    case high => rw [engineStep_high s hb hp, engineStep_high (s.withRecord e o) hb hp]; rfl
    case low =>
      by_cases hn : s.eng.n = 7
      · rw [engineStep_low_last s hb hp hn, engineStep_low_last (s.withRecord e o) hb hp hn]; rfl
      · rw [engineStep_low_more s hb hp hn, engineStep_low_more (s.withRecord e o) hb hp hn]; rfl

/-- Sub-step 4 does not read ERRC or the output ports (R68 to R71, R78). -/
theorem endTick_withRecord (e : Byte) (o : HostOut) :
    endTick (s.withRecord e o) = (endTick s).withRecord e o := by
  rw [endTick_eq, endTick_eq, engineStep_withRecord, extShift, extShift, apply_ite (State.withRecord · e o)]
  rfl

/-- ERRC after an illegal command: the first record, or this one (R107). -/
def recordedErrc (c : Cause) (op : Nibble) : Byte := if s.errV then s.errc else errcOf c op

/-- An illegal word writes ERRC and the reply over the answer to no command (R107). -/
theorem illegalCommand_eq_withRecord (c : Cause) (op : Nibble) :
    illegalCommand c op s = (reply HostOut.none s).withRecord (recordedErrc s c op) ⟨true, false, 0x00⟩ := rfl

theorem illegalCommand_errc_of_errV (c : Cause) (op : Nibble) (h : s.errV = true) :
    (illegalCommand c op s).errc = s.errc := by
  rw [illegalCommand_errc, if_pos h]

/-! ### ERRC through a tick -/

@[simp] theorem beforeCommand_errc : (beforeCommand s).errc = s.errc := by simp [beforeCommand_eq]
@[simp] theorem endTick_errc : (endTick s).errc = s.errc := by simp [endTick_eq]

/-- A command keeps the first record (R107). -/
theorem execNext_errc_of_errV (i : Instr) (h : s.errV = true) : (execNext i s).errc = s.errc := by
  cases i with
  | rdreg r =>
    cases hr : regName? r with
    | some name => rw [execNext_eq_of_next s (exec_rdreg_some s hr)]; rfl
    | none => rw [execNext_eq_of_next s (exec_rdreg_none s hr), illegalCommand_errc_of_errV s _ _ h]
  | shift v => rw [execNext_shift, hostTransfer_frame]
  | showSeg v => rw [execNext_showSeg, hostTransfer_frame]
  | _ => rfl

/-- Sub-step 3 keeps the first record, whatever is presented (R107). -/
theorem commandStep_errc_of_errV (p : Presented) (h : s.errV = true) : (commandStep p s).errc = s.errc := by
  match p with
  | .word (.legal i) => exact execNext_errc_of_errV s i h
  | .word (.illegal c op) => exact illegalCommand_errc_of_errV s c op h
  | .none => rfl
  | .reset => rfl

/-- Every tick that is no reset keeps the first record (R107). -/
theorem step_keeps_errc_of_errV (h : s.errV = true) (hr : (nextInput s).rst = false) :
    ∃ t, step s = .next t ∧ t.errc = s.errc := by
  have hbefore : (beforeCommand s).errV = true := by rwa [State.errV, beforeCommand_errc]
  refine ⟨_, step_of_not_reset s (presents_ne_reset hr), ?_⟩
  rw [endTick_errc, commandStep_errc_of_errV _ _ hbefore, beforeCommand_errc]

/-- STATUS.ERR is ERRC.V (R24). -/
theorem status_getLsbD_three : s.status.getLsbD 3 = s.errV := by
  simp only [State.status, BitVec.getLsbD_append]
  simp

/-- The tick of an illegal word is the tick with no command, but for ERRC, the reply and the input ports (R107). -/
theorem step_presenting_illegal {w : Word} {c : Cause} {op : Nibble} (hd : decode w = .illegal c op) :
    ∃ u, step (s.presenting none) = .next u ∧
      step (s.presenting (some w)) =
        .next ((u.withInput (nextInput (s.presenting (some w)))).withRecord (recordedErrc s c op)
          ⟨true, false, 0x00⟩) := by
  obtain ⟨u, hu, heq⟩ := endTick_noReply_presenting s (some w)
  have herrc : recordedErrc (beforeCommand (s.presenting (some w))) c op = recordedErrc s c op := by
    rw [recordedErrc, State.errV, beforeCommand_errc]
    rfl
  refine ⟨u, hu, ?_⟩
  rw [step_presenting_word, hd, commandStep_illegal, illegalCommand_eq_withRecord, endTick_withRecord, heq, herrc]

end ErrorRecord

end Sys2Proof.Machine

namespace Sys2Proof.Proofs

open Sys2Proof Sys2Proof.Machine

/-- Settles O25: the illegal word's tick differs from the silent one in `recordedErrc`, whose record is that of the
cause's code; the other clauses are the bit of STATUS and the tick that keeps the first record. -/
theorem illegalWordOnlyRecorded : Obligations.IllegalWordOnlyRecorded := by
  refine ⟨fun s w c op hd => ?_, status_getLsbD_three, step_keeps_errc_of_errV⟩
  obtain ⟨u, hu, hw⟩ := step_presenting_illegal s hd
  refine ⟨_, u, hw, hu, ?_⟩
  cases c <;> rfl

end Sys2Proof.Proofs

/-! ## Proofs: reset, 70_reset_and_hazards.md

A reset tick is `resetRegisters` on the tick's input, so every register is read off from that operation; what RDREG and
the pins show is computed from the registers. -/

namespace Sys2Proof.Machine

section Reset

variable (s : State)

/-- STATUS after reset: no flag of R24 is up. -/
@[simp] theorem resetRegisters_status : (resetRegisters s).status = 0x00 := by
  simp [State.status, State.holdw, State.hold, State.errV, State.dbact, Engine.reset]

/-- DBST after reset is the code of IDLE (R34). -/
@[simp] theorem regRead_dbst_resetRegisters : regRead (resetRegisters s) .dbst = 0x00 := by
  simp [regRead, Fsm.code]

/-- IRQ is 0 after reset, since CHG is (R36). -/
@[simp] theorem resetRegisters_irq : (resetRegisters s).irq = false := by
  simp [State.irq]

end Reset

end Sys2Proof.Machine

namespace Sys2Proof.Proofs

open Sys2Proof Sys2Proof.Machine

/-- Settles O55: a tick with RST = 1 is `resetTick` whatever word is presented, and `resetRegisters` says each field. -/
theorem resetTickGivesResetValues : Obligations.ResetTickGivesResetValues := by
  intro s hr
  refine ⟨_, step_of_reset s (presents_reset _ hr), ?_⟩
  rw [resetTick_eq]
  simp [Engine.reset, HostOut.none]

end Sys2Proof.Proofs

/-! ## Proofs: round trips of the encoding, and the causes of illegal words

A word is put together from its opcode, must-be-zero and operand fields (R59), so a word whose must-be-zero bits are 0
is the encoding of its opcode and operand. -/

namespace Sys2Proof

/-! ### The encoded word -/

theorem opField_encode (i : Instr) : opField (encode i) = i.opcode := by
  cases i with
  | nop => exact Laws.OpcodeField.nop
  | shift v => exact Laws.OpcodeField.shift v
  | showSeg v => exact Laws.OpcodeField.showSeg v
  | rdsw => exact Laws.OpcodeField.rdsw
  | rdreg r => exact Laws.OpcodeField.rdreg r
  | wrctrl m => exact Laws.OpcodeField.wrctrl m
  | wredge m => exact Laws.OpcodeField.wredge m
  | arm => exact Laws.OpcodeField.arm
  | clrpend m => exact Laws.OpcodeField.clrpend m
  | ack => exact Laws.OpcodeField.ack

/-- An encoded word has its format's must-be-zero bits at 0 (R59). -/
theorem mbzClear_encode (i : Instr) : mbzClear (encode i) i.format = true := by
  cases i <;> simp [encode, Instr.format]

/-- The operand of an encoded word is the command's (R60). -/
theorem withOperandOf_encode (i : Instr) : i.withOperandOf (encode i) = i := by
  cases i <;> simp [encode, Instr.withOperandOf]

/-! ### A word from its fields -/

section Fields

variable {w : Word}

/-- Three fields that lie side by side and end at bit 0. -/
theorem append_three_fields {n : Nat} (x : BitVec n) (a b c : Nat) :
    x.extractLsb' (c + b) a ++ x.extractLsb' c b ++ x.extractLsb' 0 c = x.extractLsb' 0 (a + b + c) := by
  rw [BitVec.extractLsb'_append_extractLsb'_eq_extractLsb' rfl,
    BitVec.extractLsb'_append_extractLsb'_eq_extractLsb' (Nat.zero_add c).symm]

theorem wordZ_of_fields (h : mbzClear w .z = true) : wordZ (opField w) = w := by
  have hmbz : w.extractLsb' 0 12 = 0#12 := by simpa [mbzClear] using h
  rw [wordZ, opField, ← hmbz]
  exact (BitVec.extractLsb'_append_extractLsb'_eq_extractLsb' rfl).trans BitVec.extractLsb'_eq_self

theorem wordI8_of_fields (h : mbzClear w .i8 = true) : wordI8 (opField w) (imm8Field w) = w := by
  have hmbz : w.extractLsb' 8 4 = 0#4 := by simpa [mbzClear] using h
  rw [wordI8, opField, imm8Field, ← hmbz]
  exact (append_three_fields w 4 4 8).trans BitVec.extractLsb'_eq_self

theorem wordI4_of_fields (h : mbzClear w .i4 = true) : wordI4 (opField w) (imm4Field w) = w := by
  have hmbz : w.extractLsb' 4 8 = 0#8 := by simpa [mbzClear] using h
  rw [wordI4, opField, imm4Field, ← hmbz]
  exact (append_three_fields w 4 8 4).trans BitVec.extractLsb'_eq_self

theorem wordR_of_fields (h : mbzClear w .r = true) : wordR (opField w) (regField w) = w := by
  have hmbz : w.extractLsb' 0 8 = 0#8 := by simpa [mbzClear] using h
  rw [wordR, opField, regField, ← hmbz]
  exact (append_three_fields w 4 4 8).trans BitVec.extractLsb'_eq_self

/-- A word with a command's opcode and no must-be-zero bit is the encoding of that command with the word's operand
(R59, R60). -/
theorem encode_withOperandOf {i : Instr} (hop : opField w = i.opcode) (hmbz : mbzClear w i.format = true) :
    encode (i.withOperandOf w) = w := by
  cases i with
  | nop => exact (congrArg wordZ hop.symm).trans (wordZ_of_fields hmbz)
  | shift v => exact (congrArg (wordI8 · _) hop.symm).trans (wordI8_of_fields hmbz)
  | showSeg v => exact (congrArg (wordI4 · _) hop.symm).trans (wordI4_of_fields hmbz)
  | rdsw => exact (congrArg wordZ hop.symm).trans (wordZ_of_fields hmbz)
  | rdreg r => exact (congrArg (wordR · _) hop.symm).trans (wordR_of_fields hmbz)
  | wrctrl m => exact (congrArg (wordI4 · _) hop.symm).trans (wordI4_of_fields hmbz)
  | wredge m => exact (congrArg (wordI4 · _) hop.symm).trans (wordI4_of_fields hmbz)
  | arm => exact (congrArg wordZ hop.symm).trans (wordZ_of_fields hmbz)
  | clrpend m => exact (congrArg (wordI4 · _) hop.symm).trans (wordI4_of_fields hmbz)
  | ack => exact (congrArg wordZ hop.symm).trans (wordZ_of_fields hmbz)

end Fields

/-! ### Illegal words (R106) -/

/-- The must-be-zero bits of a format as a mask (R59). -/
def Format.mbzMask : Format → Word
  | .z => 0x0FFF
  | .i8 => 0x0F00
  | .i4 => 0x0FF0
  | .r => 0x00FF

theorem Format.mbzMask_getLsbD (f : Format) :
    ∀ i < 16, f.mbzMask.getLsbD i = decide (f.mbzStart ≤ i ∧ i < f.mbzStart + f.mbzLength) := by
  cases f <;> decide

theorem and_mbzMask_eq_zero_iff (w : Word) (f : Format) : w &&& f.mbzMask = 0 ↔ mbzClear w f = true := by
  have hle := f.mbz_le
  rw [mbzClear_iff]
  constructor
  · intro h j hj
    have hbit : (w &&& f.mbzMask).getLsbD (f.mbzStart + j) = false := by rw [h]; exact BitVec.getLsbD_zero
    simpa [f.mbzMask_getLsbD (f.mbzStart + j) (by omega), hj] using hbit
  · refine fun h => BitVec.eq_of_getLsbD_eq fun i hi => ?_
    rw [BitVec.getLsbD_and, f.mbzMask_getLsbD i hi]
    by_cases hm : f.mbzStart ≤ i ∧ i < f.mbzStart + f.mbzLength
    · have hclear := h (i - f.mbzStart) (by omega)
      rw [Nat.add_sub_of_le hm.1] at hclear
      simp [hclear]
    · simp [hm]

theorem and_mbzMask_ne_zero_iff (w : Word) (f : Format) : w &&& f.mbzMask ≠ 0 ↔ mbzClear w f = false := by
  rw [ne_eq, and_mbzMask_eq_zero_iff, Bool.not_eq_true]

/-- Opcodes 0 to 9 are those of the commands (R61). -/
theorem exists_opcode_eq_iff (op : Nibble) : (∃ i : Instr, i.opcode = op) ↔ op < 0xA := by
  constructor
  · rintro ⟨i, rfl⟩
    cases i <;> exact of_decide_eq_true rfl
  · intro h
    have hcases : op = 0 ∨ op = 1 ∨ op = 2 ∨ op = 3 ∨ op = 4 ∨ op = 5 ∨ op = 6 ∨ op = 7 ∨ op = 8 ∨ op = 9 := by
      bv_omega
    rcases hcases with rfl | rfl | rfl | rfl | rfl | rfl | rfl | rfl | rfl | rfl
    exacts [⟨.nop, rfl⟩, ⟨.shift 0, rfl⟩, ⟨.showSeg 0, rfl⟩, ⟨.rdsw, rfl⟩, ⟨.rdreg 0, rfl⟩, ⟨.wrctrl 0, rfl⟩,
      ⟨.wredge 0, rfl⟩, ⟨.arm, rfl⟩, ⟨.clrpend 0, rfl⟩, ⟨.ack, rfl⟩]

/-- A reserved opcode is illegal whatever the other bits are (R63, R106). -/
theorem decode_of_reserved_opcode {w : Word} (h : 0xA ≤ opField w) :
    decode w = .illegal .reservedOpcode (opField w) := by
  have hlarge : 10 ≤ (opField w).toNat := h
  unfold decode
  split
  case h_11 => rfl
  all_goals omega

/-- The illegal words with the opcode of a command: a reserved register, else a must-be-zero bit (R106). -/
theorem decode_eq_illegal_iff_of_opcode {w : Word} {i : Instr} (h : opField w = i.opcode) (c : Cause) (o : Nibble) :
    decode w = .illegal c o ↔
      o = opField w ∧
        ((c = .reservedReg ∧ (i.withOperandOf w).wellFormed = false) ∨
          (c = .nonzeroMbz ∧ (i.withOperandOf w).wellFormed = true ∧ mbzClear w i.format = false)) := by
  rw [decode_of_opField w i h]
  cases hwf : (i.withOperandOf w).wellFormed
  · simp [eq_comm (a := c), eq_comm (a := o), and_comm]
  · cases hmbz : mbzClear w i.format
    · simp [checkMbz_set w _ _ hmbz, eq_comm (a := c), eq_comm (a := o), and_comm]
    · simp [checkMbz_clear w _ _ hmbz]

/-- RDREG is the only opcode with reserved operands (R62). -/
theorem withOperandOf_illFormed_iff (w : Word) (i : Instr) :
    (i.withOperandOf w).wellFormed = false ↔ i.opcode = 0x4 ∧ 8 ≤ regField w := by
  cases i <;> simp [Instr.withOperandOf, Instr.wellFormed, Instr.opcode]

/-- Every illegal word but one with a reserved opcode has a command's opcode (R106). -/
theorem exists_opcode_of_illegal {w : Word} {c : Cause} {o : Nibble} (h : decode w = .illegal c o)
    (hc : c ≠ .reservedOpcode) : ∃ i : Instr, i.opcode = opField w := by
  by_contra hnone
  rw [exists_opcode_eq_iff, BitVec.not_lt] at hnone
  rw [decode_of_reserved_opcode hnone] at h
  exact hc (Decoded.illegal.inj h).1.symm

theorem decode_eq_reservedOpcode_iff (w : Word) (o : Nibble) :
    decode w = .illegal .reservedOpcode o ↔ o = opField w ∧ 0xA ≤ o := by
  constructor
  · intro h
    by_cases hlarge : 0xA ≤ opField w
    · rw [decode_of_reserved_opcode hlarge] at h
      obtain ⟨-, rfl⟩ := Decoded.illegal.inj h
      exact ⟨rfl, hlarge⟩
    · obtain ⟨i, hi⟩ := (exists_opcode_eq_iff (opField w)).mpr (BitVec.not_le.mp hlarge)
      simp [decode_eq_illegal_iff_of_opcode hi.symm] at h
  · rintro ⟨rfl, hlarge⟩
    exact decode_of_reserved_opcode hlarge

theorem decode_eq_reservedReg_iff (w : Word) (o : Nibble) :
    decode w = .illegal .reservedReg o ↔ o = opField w ∧ o = 0x4 ∧ 8 ≤ regField w := by
  constructor
  · intro h
    obtain ⟨i, hi⟩ := exists_opcode_of_illegal h (by simp)
    rw [decode_eq_illegal_iff_of_opcode hi.symm, withOperandOf_illFormed_iff] at h
    obtain ⟨rfl, ⟨-, hop, hr⟩ | ⟨hc, -⟩⟩ := h
    · exact ⟨rfl, hi.symm.trans hop, hr⟩
    · simp at hc
  · rintro ⟨rfl, hop, hr⟩
    have hill := (withOperandOf_illFormed_iff w (.rdreg 0)).mpr ⟨rfl, hr⟩
    exact (decode_eq_illegal_iff_of_opcode hop _ _).mpr ⟨rfl, .inl ⟨rfl, hill⟩⟩

theorem decode_eq_nonzeroMbz_iff (w : Word) (o : Nibble) :
    decode w = .illegal .nonzeroMbz o ↔
      o = opField w ∧
        ∃ i : Instr, i.opcode = o ∧ (i.withOperandOf w).wellFormed = true ∧ w &&& i.format.mbzMask ≠ 0 := by
  constructor
  · intro h
    obtain ⟨i, hi⟩ := exists_opcode_of_illegal h (by simp)
    rw [decode_eq_illegal_iff_of_opcode hi.symm] at h
    obtain ⟨rfl, ⟨hc, -⟩ | ⟨-, hwf, hmbz⟩⟩ := h
    · simp at hc
    · exact ⟨rfl, i, hi, hwf, (and_mbzMask_ne_zero_iff w _).mpr hmbz⟩
  · rintro ⟨rfl, i, hop, hwf, hmbz⟩
    exact (decode_eq_illegal_iff_of_opcode hop.symm _ _).mpr
      ⟨rfl, .inr ⟨rfl, hwf, (and_mbzMask_ne_zero_iff w _).mp hmbz⟩⟩

end Sys2Proof

namespace Sys2Proof.Proofs

open Sys2Proof Sys2Proof.Machine

/-- Settles O7: the encoded word has the command's opcode, operand and clear must-be-zero bits. -/
theorem decodeOfEncode : Obligations.DecodeOfEncode := by
  intro i hwf
  rw [decode_of_opField _ i (opField_encode i), withOperandOf_encode, if_pos hwf,
    checkMbz_clear _ _ i (mbzClear_encode i)]

/-- Settles O8: a legal word is put together again from its fields. -/
theorem encodeOfDecode : Obligations.EncodeOfDecode := by
  intro w i h
  obtain ⟨hrow, hreg, hoperand⟩ := (decode_eq_legal_iff w i).mp h
  obtain ⟨hop, hmbz⟩ := (and_row_mask_iff w i).mp hrow
  have hencode := encode_withOperandOf hop hmbz
  have hwf := (i.wellFormed_withOperandOf_iff w).mpr hreg
  rw [hoperand] at hencode hwf
  exact ⟨hencode, hwf⟩

/-- Settles O6: each cause by its own equivalence; the must-be-zero mask is that of the command's format. -/
theorem illegalCausesInPriorityOrder : Obligations.IllegalCausesInPriorityOrder := by
  intro w c o
  cases c with
  | reservedOpcode => exact decode_eq_reservedOpcode_iff w o
  | reservedReg => exact decode_eq_reservedReg_iff w o
  | nonzeroMbz =>
    rw [decode_eq_nonzeroMbz_iff]
    refine and_congr_right fun _ => ⟨?_, ?_⟩
    · rintro ⟨i, rfl, hwf, hmbz⟩
      cases i with
      | rdreg r => exact .inr (.inr (.inr ⟨rfl, of_decide_eq_true hwf, hmbz⟩))
      | shift v => exact .inr (.inl ⟨rfl, hmbz⟩)
      | nop => exact .inl ⟨.inl rfl, hmbz⟩
      | rdsw => exact .inl ⟨.inr (.inl rfl), hmbz⟩
      | arm => exact .inl ⟨.inr (.inr (.inl rfl)), hmbz⟩
      | ack => exact .inl ⟨.inr (.inr (.inr rfl)), hmbz⟩
      | showSeg v => exact .inr (.inr (.inl ⟨.inl rfl, hmbz⟩))
      | wrctrl m => exact .inr (.inr (.inl ⟨.inr (.inl rfl), hmbz⟩))
      | wredge m => exact .inr (.inr (.inl ⟨.inr (.inr (.inl rfl)), hmbz⟩))
      | clrpend m => exact .inr (.inr (.inl ⟨.inr (.inr (.inr rfl)), hmbz⟩))
    · rintro (⟨rfl | rfl | rfl | rfl, hmbz⟩ | ⟨rfl, hmbz⟩ | ⟨rfl | rfl | rfl | rfl, hmbz⟩ | ⟨rfl, hr, hmbz⟩)
      exacts [⟨.nop, rfl, rfl, hmbz⟩, ⟨.rdsw, rfl, rfl, hmbz⟩, ⟨.arm, rfl, rfl, hmbz⟩, ⟨.ack, rfl, rfl, hmbz⟩,
        ⟨.shift 0, rfl, rfl, hmbz⟩, ⟨.showSeg 0, rfl, rfl, hmbz⟩, ⟨.wrctrl 0, rfl, rfl, hmbz⟩,
        ⟨.wredge 0, rfl, rfl, hmbz⟩, ⟨.clrpend 0, rfl, rfl, hmbz⟩, ⟨.rdreg 0, rfl, decide_eq_true hr, hmbz⟩]

/-- Settles O4: each sample word is the encoding of its command. -/
theorem sampleWordsDecode : Obligations.SampleWordsDecode :=
  ⟨decodeOfEncode .nop rfl, decodeOfEncode (.shift 0xFC) rfl, decodeOfEncode (.showSeg 15) rfl,
    decodeOfEncode .rdsw rfl, decodeOfEncode (.rdreg 5) rfl, decodeOfEncode (.wrctrl 0b1011) rfl,
    decodeOfEncode (.wredge 0b0101) rfl, decodeOfEncode .arm rfl, decodeOfEncode (.clrpend 0b0010) rfl,
    decodeOfEncode .ack rfl⟩

end Sys2Proof.Proofs

/-! ## Proofs: the commands, one equation each, and their frame -/

namespace Sys2Proof.Machine

section CommandWriters

variable (s : State)

/-- EDGE: ARM and WREDGE are its only writers among the commands (R27). -/
theorem execNext_edge (i : Instr) (harm : i ≠ .arm) (hwredge : ∀ m, i ≠ .wredge m) :
    (execNext i s).edge = s.edge := by
  cases i with
  | arm => exact absurd rfl harm
  | wredge m => exact absurd rfl (hwredge m)
  | shift v => rw [execNext_shift, hostTransfer_frame]
  | showSeg v => rw [execNext_showSeg, hostTransfer_frame]
  | rdreg r => rw [execNext_rdreg_frame]
  | _ => rfl

/-- ACKED: ACK is its only writer among the commands (R34). -/
theorem execNext_acked (i : Instr) (h : i ≠ .ack) : (execNext i s).acked = s.acked := by
  cases i with
  | ack => exact absurd rfl h
  | shift v => rw [execNext_shift, hostTransfer_frame]
  | showSeg v => rw [execNext_showSeg, hostTransfer_frame]
  | rdreg r => rw [execNext_rdreg_frame]
  | _ => rfl

/-- ENG: SHIFT and SHOW are its only writers among the commands (R33). -/
theorem execNext_eng (i : Instr) (hshift : ∀ v, i ≠ .shift v) (hshow : ∀ v, i ≠ .showSeg v) :
    (execNext i s).eng = s.eng := by
  cases i with
  | shift v => exact absurd rfl (hshift v)
  | showSeg v => exact absurd rfl (hshow v)
  | rdreg r => rw [execNext_rdreg_frame]
  | _ => rfl

/-- RDREG of a defined index only answers (R44, R104). -/
theorem execNext_rdreg_defined (r : Nibble) (h : r < 8) :
    ∃ name, execNext (.rdreg r) s = reply ⟨true, true, regRead s name⟩ s := by
  obtain ⟨name, hname⟩ := Option.isSome_iff_exists.mp ((regName_isSome_iff r).mpr h)
  exact ⟨name, execNext_eq_of_next s (exec_rdreg_some s hname)⟩

/-- ERRC: no legal command writes it (R30). -/
theorem execNext_errc (i : Instr) (h : i.wellFormed = true) : (execNext i s).errc = s.errc := by
  cases i with
  | shift v => rw [execNext_shift, hostTransfer_frame]
  | showSeg v => rw [execNext_showSeg, hostTransfer_frame]
  | rdreg r =>
    obtain ⟨name, heq⟩ := execNext_rdreg_defined s r (of_decide_eq_true h)
    rw [heq, reply_errc]
  | _ => rfl

/-- No command sets a pending flag (R28). -/
theorem execNext_pend_getLsbD (i : Instr) (k : Nat) (h : (execNext i s).pend.getLsbD k = true) :
    s.pend.getLsbD k = true := by
  by_cases hclr : ∃ m, i = .clrpend m
  · obtain ⟨m, rfl⟩ := hclr
    rw [execNext_clrpend, reply_pend, BitVec.getLsbD_and, Bool.and_eq_true] at h
    exact h.1
  · rwa [execNext_pend s i fun m hi => hclr ⟨m, hi⟩] at h

end CommandWriters

/-- A 4-bit value as the weighted sum of its bits (R15). -/
theorem toNat_append_eq_sum_bits (v : Nibble) :
    (0#4 ++ v : Byte).toNat =
      (v.getLsbD 0).toNat * 1 + (v.getLsbD 1).toNat * 2 + (v.getLsbD 2).toNat * 4 + (v.getLsbD 3).toNat * 8 := by
  revert v
  decide

/-- STATUS.HOLDW by the stage (R24). -/
theorem holdw_eq (s : State) : s.holdw = (decide (s.fsm = .dhold) && s.ctrl.getLsbD 2 && !s.acked) := rfl

/-- STATUS.DBACT by the stage (R24). -/
theorem dbact_eq (s : State) : s.dbact = decide (s.fsm ≠ .idle) := by
  rw [State.dbact, bne, beq_eq_decide, decide_not]

section SilentReply

variable (s : State)

/-- Sub-step 4 does not read the output ports (R22). -/
theorem endTick_reply (o : HostOut) : endTick (reply o s) = reply o (endTick s) := by
  refine (endTick_withRecord s s.errc o).trans ?_
  rw [← endTick_errc s]
  rfl

/-- The tick of a word that is only answered is the tick with no command, but for the answer and the input ports. -/
theorem step_presenting_of_reply {w : Word} {o : HostOut}
    (h : commandStep (.word (decode w)) (beforeCommand (s.presenting (some w))) =
      reply o (beforeCommand (s.presenting (some w)))) :
    ∃ u, step (s.presenting none) = .next u ∧ u.out = HostOut.none ∧
      step (s.presenting (some w)) = .next (reply o (u.withInput (nextInput (s.presenting (some w))))) := by
  refine ⟨_, step_presenting_none s, endTick_out _, ?_⟩
  rw [step_presenting_word, h, endTick_reply, beforeCommand_presenting, endTick_withInput, endTick_reply]
  rfl

end SilentReply

end Sys2Proof.Machine

namespace Sys2Proof.Proofs

open Sys2Proof Sys2Proof.Machine

/-- Settles O3: `execNext` and the two equations of a tick. -/
theorem everyTickAnswersNext : Obligations.EveryTickAnswersNext := by
  refine ⟨fun i s => ⟨_, exec_eq_next s i⟩, fun s => ?_⟩
  by_cases hr : presents (nextInput s) = .reset
  · exact ⟨_, step_of_reset s hr⟩
  · exact ⟨_, step_of_not_reset s hr⟩

/-- Settles O1. -/
theorem stepRunsDecodedCommand : Obligations.StepRunsDecodedCommand := by
  intro s w i hr hc hd
  rw [step_of_not_reset s (presents_ne_reset hr), presents_word _ w hr hc, hd, exec_eq_next, mapNext_next,
    commandStep_legal]

/-- Settles O9. -/
theorem nopOnlyTaken : Obligations.NopOnlyTaken := fun s => exec_eq_next s .nop

/-- Settles O10: SHIFT is a host transfer, which loads the free engine. -/
theorem shiftLoadsFreeEngine : Obligations.ShiftLoadsFreeEngine := by
  intro v s hfree
  rw [exec_eq_next, execNext_shift, hostTransfer_free s v hfree]
  rfl

/-- Settles O12: SHIFT and SHOW are host transfers, which stall while the engine is busy. -/
theorem transferStallsWhileBusy : Obligations.TransferStallsWhileBusy := by
  refine fun s hbusy => ⟨fun v => ?_, fun k => ?_⟩
  · rw [exec_eq_next, execNext_shift, hostTransfer_busy s v hbusy]
    rfl
  · rw [exec_eq_next, execNext_showSeg, hostTransfer_busy s _ hbusy]
    rfl

/-- Settles O13. -/
theorem rdswAnswersLevels : Obligations.RdswAnswersLevels := by
  refine fun s => ⟨?_, toNat_append_eq_sum_bits s.input.swIn⟩
  rw [exec_eq_next, execNext_rdsw, zext8_eq_append]
  rfl

/-- Settles O14: RDREG answers `regRead` of the register its index names; STATUS and DBST are read off by the stage. -/
theorem rdregAnswersRegister : Obligations.RdregAnswersRegister := by
  intro s
  have hread {r : Nibble} {name : RegName} {b : Byte} (hr : regName? r = some name) (hb : regRead s name = b) :
      exec (.rdreg r) s = .next { s with out := ⟨true, true, b⟩ } := hb ▸ exec_rdreg_some s hr
  refine ⟨hread rfl (zext8_eq_append s.ctrl), hread (name := .status) rfl ?_, hread rfl (zext8_eq_append s.value),
    hread rfl (zext8_eq_append s.edge), hread rfl (zext8_eq_append s.pend), hread (name := .last) rfl rfl,
    hread (name := .errc) rfl rfl, hread (name := .dbst) rfl ?_⟩
  · rw [regRead, State.status, holdw_eq, dbact_eq, State.errV]
  · cases hf : s.fsm <;> simp [regRead, hf, Fsm.code]

/-- Settles O15: an index from 8 on names no register. -/
theorem rdregReservedIndexRecorded : Obligations.RdregReservedIndexRecorded := by
  intro r s h
  have hnone : regName? r = none := by
    rw [← Option.not_isSome_iff_eq_none, regName_isSome_iff, BitVec.not_lt]
    exact h
  exact exec_rdreg_none s hnone

/-- Settles O16. -/
theorem wrctrlWritesCtrl : Obligations.WrctrlWritesCtrl := fun m s => exec_eq_next s (.wrctrl m)

/-- Settles O17. -/
theorem wredgeWritesEdge : Obligations.WredgeWritesEdge := fun m s => exec_eq_next s (.wredge m)

/-- Settles O18. -/
theorem armSetsEdgeToLevels : Obligations.ArmSetsEdgeToLevels := fun s => exec_eq_next s .arm

/-- Settles O19: the new PEND is the old one without the mask. -/
theorem clrpendClearsSelectedFlags : Obligations.ClrpendClearsSelectedFlags := by
  refine fun m s => ⟨s.pend &&& ~~~m, exec_eq_next s (.clrpend m), fun k hk => ?_⟩
  simp [hk]

/-- Settles O20: IRQ needs CHG, and HOLDW needs ACKED = 0. -/
theorem ackClearsChange : Obligations.AckClearsChange :=
  fun s => ⟨_, exec_eq_next s .ack, rfl, rfl, by simp [State.holdw]⟩

/-- Settles O21: `execNext_frame` for the registers no command writes, and one lemma per register for the others. -/
theorem commandFrame : Obligations.CommandFrame := by
  intro i s
  have hframe := execNext_frame s i
  refine ⟨_, exec_eq_next s i, by rw [hframe], by rw [hframe], by rw [hframe], by rw [hframe], by rw [hframe],
    by rw [hframe], by rw [hframe], by rw [hframe], by rw [hframe], by rw [hframe], by rw [hframe], by rw [hframe],
    memRead_congr s _ (by rw [hframe]), execNext_ctrl s i, execNext_edge s i, execNext_pend s i,
    fun h => ⟨execNext_chg s i h, execNext_acked s i h⟩, execNext_eng s i, execNext_errc s i,
    fun k _ => execNext_pend_getLsbD s i k⟩

/-- Settles O22: NOP is only answered. -/
theorem nopTickDiffersOnlyInAccept : Obligations.NopTickDiffersOnlyInAccept := by
  intro s
  have hnop : decode 0x0000 = .legal .nop := decodeOfEncode .nop rfl
  obtain ⟨u, hu, hout, ht⟩ := step_presenting_of_reply s (w := 0x0000) (by rw [hnop]; rfl)
  exact ⟨_, u, ht, hu, hout, rfl⟩

/-- Settles O23: RDSW and RDREG of a defined index are only answered. -/
theorem readsHaveNoSideEffect : Obligations.ReadsHaveNoSideEffect := by
  intro s w hread
  have hreply : ∃ b, commandStep (.word (decode w)) (beforeCommand (s.presenting (some w))) =
      reply ⟨true, true, b⟩ (beforeCommand (s.presenting (some w))) := by
    obtain hd | ⟨r, hd⟩ := hread
    · exact ⟨_, by rw [hd, commandStep_legal, execNext_rdsw]⟩
    · obtain ⟨-, hwf⟩ := encodeOfDecode w _ hd
      obtain ⟨name, heq⟩ := execNext_rdreg_defined (beforeCommand (s.presenting (some w))) r (of_decide_eq_true hwf)
      exact ⟨_, by rw [hd, commandStep_legal, heq]⟩
  obtain ⟨b, hb⟩ := hreply
  obtain ⟨u, hu, -, ht⟩ := step_presenting_of_reply s hb
  exact ⟨_, u, ht, hu, rfl, rfl, rfl⟩

end Sys2Proof.Proofs

/-! ## Proofs: the tick as a function on states

Every tick answers a next state, so ticks are the iterates of one function, and the input of the j-th of them is the
j-th coming input of the first state. -/

namespace Sys2Proof.Machine

/-- The state after sub-step 3 of a tick that is no reset (R39). -/
def afterCommand (s : State) : State := commandStep (presents (nextInput s)) (beforeCommand s)

/-- The state at the end of the next tick; `step_eq_next` ties it to `step`. -/
def tickNext (s : State) : State := if (nextInput s).rst then resetTick s else endTick (afterCommand s)

/-- The state at the end of the next `k` ticks; `runTicks_eq_next` ties it to `runTicks`. -/
def stateAfter (k : Nat) (s : State) : State := tickNext^[k] s

/-- A tick that presents a word is no reset (R120). -/
theorem rst_of_presents_word {i : TickInput} {d : Decoded} (h : presents i = .word d) : i.rst = false := by
  by_contra hrst
  rw [presents_reset i (Bool.eq_true_of_not_eq_false hrst)] at h
  cases h

section Iterates

variable (s : State)

theorem tickNext_of_rst (h : (nextInput s).rst = true) : tickNext s = resetTick s := if_pos h

theorem tickNext_of_not_rst (h : (nextInput s).rst = false) : tickNext s = endTick (afterCommand s) := by
  simp [tickNext, h]

theorem step_eq_next : step s = .next (tickNext s) := by
  cases hr : (nextInput s).rst
  · rw [tickNext_of_not_rst s hr, step_of_not_reset s (presents_ne_reset hr), afterCommand]
  · rw [tickNext_of_rst s hr, step_of_reset s (presents_reset _ hr)]

theorem tickNext_eq_of_step {t : State} (h : step s = .next t) : tickNext s = t := by
  rw [step_eq_next] at h
  exact Host.Outcome.next.inj h

@[simp] theorem stateAfter_zero : stateAfter 0 s = s := rfl

theorem stateAfter_one : stateAfter 1 s = tickNext s := rfl

theorem stateAfter_succ (k : Nat) : stateAfter (k + 1) s = tickNext (stateAfter k s) :=
  Function.iterate_succ_apply' tickNext k s

theorem stateAfter_tickNext (k : Nat) : stateAfter k (tickNext s) = stateAfter (k + 1) s := rfl

theorem stateAfter_add (j k : Nat) : stateAfter (j + k) s = stateAfter k (stateAfter j s) := by
  rw [Nat.add_comm]
  exact Function.iterate_add_apply tickNext k j s

theorem runTicks_eq_next (k : Nat) : runTicks k s = .next (stateAfter k s) := by
  induction k generalizing s with
  | zero => rfl
  | succ k ih => rw [runTicks_succ s k _ (step_eq_next s), ih, stateAfter_tickNext]

/-! ### The registers that sub-steps 3 and 4 leave alone -/

@[simp] theorem commandStep_fsm (p : Presented) : (commandStep p s).fsm = s.fsm := by rw [commandStep_frame]
@[simp] theorem commandStep_dbcnt (p : Presented) : (commandStep p s).dbcnt = s.dbcnt := by rw [commandStep_frame]
@[simp] theorem commandStep_data (p : Presented) : (commandStep p s).data = s.data := by rw [commandStep_frame]
@[simp] theorem commandStep_last (p : Presented) : (commandStep p s).last = s.last := by rw [commandStep_frame]
@[simp] theorem commandStep_prev (p : Presented) : (commandStep p s).prev = s.prev := by rw [commandStep_frame]
@[simp] theorem commandStep_input (p : Presented) : (commandStep p s).input = s.input := by rw [commandStep_frame]
@[simp] theorem commandStep_script (p : Presented) : (commandStep p s).script = s.script := by rw [commandStep_frame]
@[simp] theorem commandStep_ticks (p : Presented) : (commandStep p s).ticks = s.ticks := by rw [commandStep_frame]

@[simp] theorem endTick_edge : (endTick s).edge = s.edge := by simp [endTick_eq]
@[simp] theorem endTick_prev : (endTick s).prev = s.prev := by simp [endTick_eq]
@[simp] theorem endTick_fsm : (endTick s).fsm = s.fsm := by simp [endTick_eq]
@[simp] theorem endTick_dbcnt : (endTick s).dbcnt = s.dbcnt := by simp [endTick_eq]
@[simp] theorem endTick_acked : (endTick s).acked = s.acked := by simp [endTick_eq]
@[simp] theorem endTick_input : (endTick s).input = s.input := by simp [endTick_eq]
@[simp] theorem endTick_script : (endTick s).script = s.script := by simp [endTick_eq]
@[simp] theorem endTick_ticks : (endTick s).ticks = s.ticks := by simp [endTick_eq]
@[simp] theorem endTick_eng : (endTick s).eng = (engineStep s).eng := by simp [endTick_eq]
@[simp] theorem endTick_last : (endTick s).last = (engineStep s).last := by simp [endTick_eq]

@[simp] theorem beforeCommand_prev : (beforeCommand s).prev = (nextInput s).swIn := by simp [beforeCommand_eq]
@[simp] theorem beforeCommand_last : (beforeCommand s).last = s.last := by simp [beforeCommand_eq]
@[simp] theorem beforeCommand_data : (beforeCommand s).data = s.data := by simp [beforeCommand_eq]
@[simp] theorem beforeCommand_input : (beforeCommand s).input = nextInput s := by simp [beforeCommand_eq]
@[simp] theorem beforeCommand_script : (beforeCommand s).script = s.script.tail := by simp [beforeCommand_eq]
@[simp] theorem beforeCommand_ticks : (beforeCommand s).ticks = s.ticks + 1 := by simp [beforeCommand_eq]

/-! ### The coming inputs -/

theorem tickNext_script : (tickNext s).script = s.script.tail := by
  cases hr : (nextInput s).rst
  · rw [tickNext_of_not_rst s hr, endTick_script, afterCommand, commandStep_script, beforeCommand_script]
  · rw [tickNext_of_rst s hr, resetTick_eq, resetRegisters_script, takeInput_script]

theorem tickNext_ticks : (tickNext s).ticks = s.ticks + 1 := by
  cases hr : (nextInput s).rst
  · rw [tickNext_of_not_rst s hr, endTick_ticks, afterCommand, commandStep_ticks, beforeCommand_ticks]
  · rw [tickNext_of_rst s hr, resetTick_eq, resetRegisters_ticks, takeInput_ticks]

/-- A tick moves every coming input one place up (R38). -/
theorem inputAt_tickNext (j : Nat) : inputAt (tickNext s) j = inputAt s (j + 1) := by
  rw [← inputAt_takeInput]
  exact inputAt_congr _ _ (tickNext_script s) (tickNext_ticks s) j

theorem nextInput_tickNext : nextInput (tickNext s) = inputAt s 1 := inputAt_tickNext s 0

theorem inputAt_stateAfter (k j : Nat) : inputAt (stateAfter k s) j = inputAt s (k + j) := by
  induction k generalizing j with
  | zero => rw [stateAfter_zero, Nat.zero_add]
  | succ k ih => rw [stateAfter_succ, inputAt_tickNext, ih, Nat.succ_add_eq_add_succ]

/-- The input of the k-th coming tick is what the state after k ticks takes next (R38). -/
theorem nextInput_stateAfter (k : Nat) : nextInput (stateAfter k s) = inputAt s k := inputAt_stateAfter s k 0

theorem tickNext_inst : (tickNext s).inst = s.inst := by
  obtain ⟨t, hstep, hinst⟩ := step_keeps_inst s
  rw [tickNext_eq_of_step s hstep, hinst]

theorem stateAfter_inst (k : Nat) : (stateAfter k s).inst = s.inst := by
  induction k with
  | zero => rfl
  | succ k ih => rw [stateAfter_succ, tickNext_inst, ih]

/-! ### Induction over ticks without RST -/

theorem NoReset.mono {k n : Nat} (h : NoReset n s) (hk : k ≤ n) : NoReset k s :=
  fun j hj => h j (Nat.lt_of_lt_of_le hj hk)

/-- What holds now and is kept by each of the next `n` ticks, none of them a reset, holds after each of them. -/
theorem stateAfter_induction {P : Nat → State → Prop} {n : Nat} (hreset : NoReset n s) (hzero : P 0 s)
    (hstep : ∀ j u, j < n → nextInput u = inputAt s j → (nextInput u).rst = false → P j u → P (j + 1) (tickNext u)) :
    ∀ k ≤ n, P k (stateAfter k s) := by
  intro k
  induction k with
  | zero => exact fun _ => hzero
  | succ k ih =>
    intro hk
    have hinput := nextInput_stateAfter s k
    rw [stateAfter_succ]
    exact hstep k _ hk hinput (by rw [hinput]; exact hreset k hk) (ih (Nat.le_of_lt hk))

end Iterates

end Sys2Proof.Machine

/-! ## Proofs: the next value of each register

Each register of a tick that is no reset, as a function of the state before the tick. -/

namespace Sys2Proof.Machine

section NextValues

variable (s : State)

/-! ### The sequencer's registers -/

/-- FSM at the end of a tick that is no reset (R86 to R92). -/
def nextFsm (s : State) : Fsm :=
  match s.fsm with
  | .idle => if s.en && (edgeDetect (takeInput s)).pend != 0 then .wait else .idle
  | .wait => if s.dbcnt = 0 then .dstart else .wait
  | .dstart => if s.auto then if s.eng.busy then .dstart else .dshift else .dhold
  | .dshift => if s.eng.busy then .dshift else .dhold
  | .dhold => if s.hold && !s.acked then .dhold else .arm
  | .arm => .clear
  | .clear => .idle

theorem beforeCommand_fsm : (beforeCommand s).fsm = nextFsm s := by
  have hsense : (edgeDetect (takeInput s)).fsm = s.fsm := rfl
  rw [beforeCommand_eq, nextFsm]
  cases hf : s.fsm <;> rw [hf] at hsense
  case idle => rw [seqStep_idle _ hsense, apply_ite State.fsm, enterSequence_fsm, hsense]; rfl
  case wait => rw [seqStep_wait _ hsense, apply_ite State.fsm, sampleSwitches_fsm, hsense]; rfl
  case dstart => rw [seqStep_dstart _ hsense, apply_ite State.fsm, apply_ite State.fsm, hsense]; rfl
  case dshift => rw [seqStep_dshift _ hsense, apply_ite State.fsm, hsense]; rfl
  case dhold => rw [seqStep_dhold _ hsense, apply_ite State.fsm, hsense]; rfl
  case arm => rw [seqStep_arm _ hsense, seqArm_fsm]
  case clear => rw [seqStep_clear _ hsense, leaveSequence_fsm]

theorem tickNext_fsm (h : (nextInput s).rst = false) : (tickNext s).fsm = nextFsm s := by
  rw [tickNext_of_not_rst s h, endTick_fsm, afterCommand, commandStep_fsm, beforeCommand_fsm]

theorem tickNext_value (h : (nextInput s).rst = false) :
    (tickNext s).value = if s.fsm = .wait ∧ s.dbcnt = 0 then (nextInput s).swIn else s.value := by
  rw [tickNext_of_not_rst s h, endTick_value, afterCommand, commandStep_value, beforeCommand_value]

theorem tickNext_value_of_fsm_ne_wait (h : (nextInput s).rst = false) (hf : s.fsm ≠ .wait) :
    (tickNext s).value = s.value := by
  rw [tickNext_value s h, if_neg fun hw => hf hw.1]

theorem seqStep_edge : (seqStep s).edge = if s.fsm = .arm then s.value else s.edge := by
  by_cases h : s.fsm = .wait ∧ s.dbcnt = 0
  · obtain ⟨hw, h0⟩ := h
    simp [seqStep_sampling s hw h0, hw]
  · rw [seqStep_eq_of_not_sampling s h]

theorem beforeCommand_edge : (beforeCommand s).edge = if s.fsm = .arm then s.value else s.edge := by
  rw [beforeCommand_eq, seqStep_edge]
  rfl

theorem commandStep_edge (p : Presented) (harm : p ≠ .word (.legal .arm))
    (hwredge : ∀ m, p ≠ .word (.legal (.wredge m))) :
    (commandStep p s).edge = s.edge := by
  match p with
  | .word (.legal i) => exact execNext_edge s i (fun hi => harm (by rw [hi])) fun m hi => hwredge m (by rw [hi])
  | .word (.illegal c op) => rfl
  | .none => rfl
  | .reset => rfl

/-- Sub-step 3 sets no pending flag (R28). -/
theorem commandStep_pend_getLsbD (p : Presented) (k : Nat) (h : (commandStep p s).pend.getLsbD k = true) :
    s.pend.getLsbD k = true := by
  match p with
  | .word (.legal i) => exact execNext_pend_getLsbD s i k h
  | .word (.illegal c op) => exact h
  | .none => exact h
  | .reset => exact h

/-! ### The engine (R33) -/

theorem seqStep_eng :
    (seqStep s).eng =
      if s.fsm = .dstart ∧ s.auto = true ∧ s.eng.busy = false then ⟨true, memRead s s.value, 0, .setup⟩ else s.eng := by
  cases hf : s.fsm
  case idle => rw [seqStep_idle s hf, apply_ite State.eng, enterSequence_eng]; simp
  case wait => rw [seqStep_wait s hf, apply_ite State.eng, sampleSwitches_eng]; simp
  case dstart =>
    rw [seqStep_dstart s hf]
    cases s.auto
    · simp
    · cases hb : s.eng.busy <;> simp
  case dshift => rw [seqStep_dshift s hf, apply_ite State.eng]; simp
  case dhold => rw [seqStep_dhold s hf, apply_ite State.eng]; simp
  case arm => rw [seqStep_arm s hf, seqArm_eng]; simp
  case clear => rw [seqStep_clear s hf, leaveSequence_eng]; simp

/-- The sequencer loads the engine in DSTART only, with AUTO = 1 and the engine free (R88). -/
theorem beforeCommand_eng :
    (beforeCommand s).eng =
      if s.fsm = .dstart ∧ s.auto = true ∧ s.eng.busy = false then ⟨true, memRead s s.value, 0, .setup⟩ else s.eng := by
  rw [beforeCommand_eq, seqStep_eng]
  rfl

/-- The host loads the engine by a SHIFT or a SHOW that is taken, which needs the engine free (R67, R75). -/
theorem commandStep_eng_cases (p : Presented) :
    (commandStep p s).eng = s.eng ∨
      s.eng.busy = false ∧ (commandStep p s).out.accept = true ∧
        ((∃ v, p = .word (.legal (.shift v)) ∧ (commandStep p s).eng = ⟨true, v, 0, .setup⟩) ∨
          ∃ k, p = .word (.legal (.showSeg k)) ∧ (commandStep p s).eng = ⟨true, memRead s k, 0, .setup⟩) := by
  match p with
  | .word (.illegal c op) => exact .inl rfl
  | .none => exact .inl rfl
  | .reset => exact .inl rfl
  | .word (.legal i) =>
    rw [commandStep_legal]
    cases hb : s.eng.busy
    · cases i with
      | shift v =>
        exact .inr ⟨rfl, by simp [hostTransfer_free s v hb], .inl ⟨v, rfl, by simp [hostTransfer_free s v hb]⟩⟩
      | showSeg k =>
        exact .inr ⟨rfl, by simp [hostTransfer_free s _ hb], .inr ⟨k, rfl, by simp [hostTransfer_free s _ hb]⟩⟩
      | rdreg r => exact .inl (execNext_eng s _ (by simp) (by simp))
      | _ => exact .inl rfl
    · cases i with
      | shift v => exact .inl (by simp [hostTransfer_busy s v hb])
      | showSeg k => exact .inl (by simp [hostTransfer_busy s _ hb])
      | rdreg r => exact .inl (execNext_eng s _ (by simp) (by simp))
      | _ => exact .inl rfl

theorem commandStep_eng_of_busy (p : Presented) (h : s.eng.busy = true) : (commandStep p s).eng = s.eng := by
  obtain heng | ⟨hfree, -⟩ := commandStep_eng_cases s p
  · exact heng
  · simp [h] at hfree

/-- Sub-steps 1 to 3 leave a running transfer alone (R75). -/
theorem afterCommand_eng_of_busy (h : s.eng.busy = true) : (afterCommand s).eng = s.eng := by
  have hbefore : (beforeCommand s).eng = s.eng := by simp [beforeCommand_eng, h]
  rw [afterCommand, commandStep_eng_of_busy _ _ (by rw [hbefore, h]), hbefore]

/-- Sub-steps 2 and 3 load the engine from one of three sources, or leave it alone (R75, R88). -/
theorem afterCommand_eng_cases :
    (afterCommand s).eng = s.eng ∨
      (∃ v, presents (nextInput s) = .word (.legal (.shift v)) ∧ (afterCommand s).out.accept = true ∧
        (afterCommand s).eng = ⟨true, v, 0, .setup⟩) ∨
      (∃ k, presents (nextInput s) = .word (.legal (.showSeg k)) ∧ (afterCommand s).out.accept = true ∧
        (afterCommand s).eng = ⟨true, memRead s k, 0, .setup⟩) ∨
      s.fsm = .dstart ∧ s.auto = true ∧ (afterCommand s).eng = ⟨true, memRead s s.value, 0, .setup⟩ := by
  have hbefore := beforeCommand_eng s
  split at hbefore
  case isTrue hload =>
    obtain ⟨hf, hauto, -⟩ := hload
    refine .inr (.inr (.inr ⟨hf, hauto, ?_⟩))
    rw [afterCommand, commandStep_eng_of_busy _ _ (by rw [hbefore]), hbefore]
  case isFalse =>
    obtain heng | ⟨-, haccept, ⟨v, hp, heng⟩ | ⟨k, hp, heng⟩⟩ :=
      commandStep_eng_cases (beforeCommand s) (presents (nextInput s))
    · exact .inl (heng.trans hbefore)
    · exact .inr (.inl ⟨v, hp, haccept, heng⟩)
    · rw [memRead_congr s _ (beforeCommand_inst s)] at heng
      exact .inr (.inr (.inl ⟨k, hp, haccept, heng⟩))

/-- Sub-steps 2 and 3 leave the engine as it is, or load a byte into it (R67). -/
theorem afterCommand_eng_eq_or_load :
    (afterCommand s).eng = s.eng ∨ ∃ b, (afterCommand s).eng = ⟨true, b, 0, .setup⟩ := by
  obtain heng | ⟨v, -, -, heng⟩ | ⟨k, -, -, heng⟩ | ⟨-, -, heng⟩ := afterCommand_eng_cases s
  exacts [.inl heng, .inr ⟨_, heng⟩, .inr ⟨_, heng⟩, .inr ⟨_, heng⟩]

/-! ### The engine step on ENG and LAST -/

/-- The engine step keeps the byte of the transfer (R69 to R71). -/
theorem engineStep_eng_sh : (engineStep s).eng.sh = s.eng.sh := by
  cases hb : s.eng.busy
  · rw [engineStep_idle s hb]
  · cases hp : s.eng.phase
    case setup => rw [engineStep_setup s hb hp]
    case high => rw [engineStep_high s hb hp]
    case low =>
      by_cases hn : s.eng.n = 7
      · rw [engineStep_low_last s hb hp hn]
      · rw [engineStep_low_more s hb hp hn]

/-- The engine step starts no transfer (R68). -/
theorem busy_of_engineStep_busy (h : (engineStep s).eng.busy = true) : s.eng.busy = true := by
  cases hb : s.eng.busy
  · rw [engineStep_idle s hb] at h
    rwa [hb] at h
  · rfl

/-- The engine step writes LAST when it ends a transfer, with its byte (R71). -/
theorem engineStep_last :
    (engineStep s).last =
      if s.eng.busy = true ∧ s.eng.phase = .low ∧ s.eng.n = 7 then s.eng.sh else s.last := by
  cases hb : s.eng.busy
  · simp [engineStep_idle s hb]
  · cases hp : s.eng.phase
    case setup => simp [engineStep_setup s hb hp]
    case high => simp [engineStep_high s hb hp]
    case low =>
      by_cases hn : s.eng.n = 7
      · rw [engineStep_low_last s hb hp hn, if_pos ⟨rfl, rfl, hn⟩]
      · rw [engineStep_low_more s hb hp hn, if_neg fun hend => hn hend.2.2]

theorem tickNext_last (h : (nextInput s).rst = false) :
    (tickNext s).last = if s.eng.busy = true ∧ s.eng.phase = .low ∧ s.eng.n = 7 then s.eng.sh else s.last := by
  have hlast : (afterCommand s).last = s.last := by rw [afterCommand, commandStep_last, beforeCommand_last]
  rw [tickNext_of_not_rst s h, endTick_last, engineStep_last, hlast]
  cases hb : s.eng.busy
  · obtain heng | ⟨b, heng⟩ := afterCommand_eng_eq_or_load s
    · simp [heng, hb]
    · simp [heng]
  · rw [afterCommand_eng_of_busy s hb, hb]

end NextValues

/-! ### EXT_SR is not read (R74) -/

section ExternalRegisterUnread

variable (s : State) (x : Byte)

/-- The same state with this in EXT_SR. -/
def State.withExtSr : State := { s with extSr := x }

theorem seqStep_withExtSr : seqStep (s.withExtSr x) = (seqStep s).withExtSr x := by
  cases hf : s.fsm
  case idle => rw [seqStep_idle s hf, seqStep_idle (s.withExtSr x) hf, apply_ite (State.withExtSr · x)]; rfl
  case wait => rw [seqStep_wait s hf, seqStep_wait (s.withExtSr x) hf, apply_ite (State.withExtSr · x)]; rfl
  case dstart =>
    rw [seqStep_dstart s hf, seqStep_dstart (s.withExtSr x) hf, apply_ite (State.withExtSr · x),
      apply_ite (State.withExtSr · x)]
    rfl
  case dshift => rw [seqStep_dshift s hf, seqStep_dshift (s.withExtSr x) hf, apply_ite (State.withExtSr · x)]; rfl
  case dhold => rw [seqStep_dhold s hf, seqStep_dhold (s.withExtSr x) hf, apply_ite (State.withExtSr · x)]; rfl
  case arm => rw [seqStep_arm s hf, seqStep_arm (s.withExtSr x) hf]; rfl
  case clear => rw [seqStep_clear s hf, seqStep_clear (s.withExtSr x) hf]; rfl

theorem beforeCommand_withExtSr : beforeCommand (s.withExtSr x) = (beforeCommand s).withExtSr x :=
  seqStep_withExtSr (edgeDetect (takeInput s)) x

theorem hostTransfer_withExtSr (v : Byte) : hostTransfer v (s.withExtSr x) = (hostTransfer v s).withExtSr x := by
  cases hb : s.eng.busy
  · rw [hostTransfer_free s v hb, hostTransfer_free (s.withExtSr x) v hb]; rfl
  · rw [hostTransfer_busy s v hb, hostTransfer_busy (s.withExtSr x) v hb]; rfl

theorem execNext_withExtSr (i : Instr) : execNext i (s.withExtSr x) = (execNext i s).withExtSr x := by
  cases i with
  | shift v => exact hostTransfer_withExtSr s x v
  | showSeg k => exact hostTransfer_withExtSr s x (memRead s k)
  | rdreg r =>
    cases hr : regName? r with
    | some name =>
      rw [execNext_eq_of_next s (exec_rdreg_some s hr), execNext_eq_of_next _ (exec_rdreg_some (s.withExtSr x) hr)]
      cases name <;> rfl
    | none =>
      rw [execNext_eq_of_next s (exec_rdreg_none s hr), execNext_eq_of_next _ (exec_rdreg_none (s.withExtSr x) hr)]
      rfl
  | _ => rfl

theorem commandStep_withExtSr (p : Presented) :
    commandStep p (s.withExtSr x) = (commandStep p s).withExtSr x := by
  match p with
  | .word (.legal i) => exact execNext_withExtSr s x i
  | .word (.illegal c op) => rfl
  | .none => rfl
  | .reset => rfl

theorem engineStep_withExtSr : engineStep (s.withExtSr x) = (engineStep s).withExtSr x := by
  cases hb : s.eng.busy
  · rw [engineStep_idle s hb, engineStep_idle (s.withExtSr x) hb]
  · cases hp : s.eng.phase
    case setup => rw [engineStep_setup s hb hp, engineStep_setup (s.withExtSr x) hb hp]; rfl
    case high => rw [engineStep_high s hb hp, engineStep_high (s.withExtSr x) hb hp]; rfl
    case low =>
      by_cases hn : s.eng.n = 7
      · rw [engineStep_low_last s hb hp hn, engineStep_low_last (s.withExtSr x) hb hp hn]; rfl
      · rw [engineStep_low_more s hb hp hn, engineStep_low_more (s.withExtSr x) hb hp hn]; rfl

/-- A tick from a state with another EXT_SR differs in EXT_SR only (R74). -/
theorem tickNext_withExtSr : ∃ y, tickNext (s.withExtSr x) = (tickNext s).withExtSr y := by
  cases hr : (nextInput s).rst
  · refine ⟨(tickNext (s.withExtSr x)).extSr, ?_⟩
    have hafter : afterCommand (s.withExtSr x) = (afterCommand s).withExtSr x := by
      rw [afterCommand, beforeCommand_withExtSr, commandStep_withExtSr]
      rfl
    rw [tickNext_of_not_rst s hr, tickNext_of_not_rst (s.withExtSr x) hr, hafter, endTick_eq, endTick_eq,
      engineStep_withExtSr, extShift_frame, extShift_frame (engineStep (afterCommand s))]
    rfl
  · refine ⟨x, ?_⟩
    rw [tickNext_of_rst s hr, tickNext_of_rst (s.withExtSr x) hr]
    rfl

end ExternalRegisterUnread

/-- A steady level makes no transition (R84). -/
theorem armedEdges_self (l edge : Nibble) : armedEdges l l edge = 0 := by
  refine BitVec.eq_of_getLsbD_eq fun k hk => ?_
  rw [armedEdges_getLsbD _ _ _ hk]
  cases l.getLsbD k <;> simp

/-- With steady levels the edge detector changes nothing (R84). -/
theorem edgeDetect_of_steady (s : State) (h : s.input.swIn = s.prev) : edgeDetect s = s := by
  rw [edgeDetect, h, armedEdges_self]
  simp

end Sys2Proof.Machine

namespace Sys2Proof.Proofs

open Sys2Proof Sys2Proof.Machine

/-- Settles O26, by induction over the ticks: each tick without RST keeps the first record. -/
theorem firstErrorRecordIsKept : Obligations.FirstErrorRecordIsKept := by
  intro k s hv hreset
  refine ⟨_, runTicks_eq_next s k, ?_⟩
  refine stateAfter_induction s (P := fun _ u => u.errc = s.errc) hreset rfl (fun _ u _ _ hrst hkept => ?_) k le_rfl
  obtain ⟨t, hstep, ht⟩ := step_keeps_errc_of_errV u (by rwa [State.errV, hkept]) hrst
  rw [tickNext_eq_of_step u hstep, ht, hkept]

/-- Settles O27: WRCTRL is the only command that writes CTRL, and no other sub-step does. -/
theorem ctrlNextValue : Obligations.CtrlNextValue := by
  intro s
  by_cases hr : presents (nextInput s) = .reset
  · exact ⟨_, step_of_reset s hr, by rw [hr]; rfl⟩
  · refine ⟨_, step_of_not_reset s hr, ?_⟩
    rw [endTick_ctrl]
    split
    case h_1 h => exact absurd h hr
    case h_2 m h => rw [h]; rfl
    case h_3 hctrl => rw [commandStep_ctrl _ _ hctrl, beforeCommand_ctrl]

/-- Settles O30: the command comes after the sequencer's stage, so the host's write wins. -/
theorem edgeNextValue : Obligations.EdgeNextValue := by
  refine ⟨rfl, fun s => zext8_eq_append s.edge, fun s => ?_⟩
  by_cases hr : presents (nextInput s) = .reset
  · exact ⟨_, step_of_reset s hr, by rw [hr]; rfl⟩
  · refine ⟨_, step_of_not_reset s hr, ?_⟩
    rw [endTick_edge]
    split
    case h_1 h => exact absurd h hr
    case h_2 m h => rw [h]; rfl
    case h_3 h => rw [h, commandStep_legal, execNext_arm, reply_edge, beforeCommand_input]
    case h_4 hwredge harm => rw [commandStep_edge _ _ harm hwredge, beforeCommand_edge]

/-- Settles O32: a transfer that completes in a tick ran before it, since a loaded engine starts at bit 0. -/
theorem lastNextValue : Obligations.LastNextValue := by
  refine ⟨rfl, fun _ => rfl, fun s => ⟨_, step_eq_next s, fun hr => ?_, tickNext_last s⟩⟩
  rw [tickNext_of_rst s hr]
  rfl

/-- Settles O34: sub-step 4 starts no transfer, so the engine was loaded in sub-step 2 or 3. -/
theorem transferByteHasOneOfThreeSources : Obligations.TransferByteHasOneOfThreeSources := by
  intro s t hstep hidle hbusy
  obtain rfl := tickNext_eq_of_step s hstep
  cases hr : (nextInput s).rst
  · have hfsm := tickNext_fsm s hr
    rw [tickNext_of_not_rst s hr] at hbusy hfsm ⊢
    rw [endTick_eng] at hbusy
    rw [endTick_out, endTick_eng, engineStep_eng_sh]
    obtain heng | ⟨v, hp, haccept, heng⟩ | ⟨k, hp, haccept, heng⟩ | ⟨hf, hauto, heng⟩ := afterCommand_eng_cases s
    · have hrun := busy_of_engineStep_busy _ hbusy
      simp [heng, hidle] at hrun
    · exact .inl ⟨v, hp, haccept, by rw [heng]⟩
    · exact .inr (.inl ⟨k, hp, haccept, by rw [heng]⟩)
    · refine .inr (.inr ⟨hf, hauto, ?_, by rw [heng]⟩)
      rw [hfsm, nextFsm, hf]
      simp [hauto, hidle]
  · rw [tickNext_of_rst s hr] at hbusy
    simp [resetTick_eq, Engine.reset] at hbusy

/-- Settles O42. -/
theorem externalRegisterIsInvisible : Obligations.ExternalRegisterIsInvisible := by
  intro s x
  obtain ⟨y, hy⟩ := tickNext_withExtSr s x
  exact ⟨_, _, step_eq_next s, (step_eq_next (s.withExtSr x)).trans (congrArg _ hy), rfl⟩

/-- Settles O45: `nextFsm` stage by stage. -/
theorem sequencesNeverNest : Obligations.SequencesNeverNest := by
  refine fun s => ⟨_, step_eq_next s, fun hr => ?_⟩
  rw [tickNext_fsm s hr, nextFsm]
  cases hf : s.fsm
  case idle => simp only; split <;> simp
  case wait => simp only; split <;> simp
  case dstart =>
    simp only
    split
    · split <;> simp
    · simp
  case dshift => simp only; split <;> simp
  case dhold => simp only; split <;> simp
  case arm => rfl
  case clear => rfl

/-- Settles O52: an input armed toward its level can only make the transition that is not armed. -/
theorem edgeTowardPresentLevelSetsNoFlag : Obligations.EdgeTowardPresentLevelSetsNoFlag := by
  intro s k hk hne
  refine ⟨_, step_eq_next s, fun hset => ?_⟩
  cases hr : (nextInput s).rst
  · rw [tickNext_of_not_rst s hr, endTick_pend] at hset
    have hseen := commandStep_pend_getLsbD _ _ k hset
    rw [beforeCommand_pend_getLsbD s hk, Bool.eq_not.mpr hne] at hseen
    cases hedge : s.edge.getLsbD k <;> simp [hedge] at hseen <;> exact hseen.1
  · rw [tickNext_of_rst s hr, resetTick_eq, resetRegisters_pend] at hset
    exact absurd hset (by simp)

/-- Settles O58: with steady levels the edge detector, with no trigger the sequencer and with the engine idle the engine
step change nothing. -/
theorem quiescentStateIsFixedPoint : Obligations.QuiescentStateIsFixedPoint := by
  intro s hidle hf hquiet hinput
  have htrigger : ¬(s.ctrl.getLsbD 0 = true ∧ s.pend ≠ 0) := by
    rintro ⟨hen, hpend⟩
    obtain hoff | hnone := hquiet
    · exact absurd (hen.symm.trans hoff) (by simp)
    · exact hpend hnone
  have hsense : edgeDetect (takeInput s) = takeInput s :=
    edgeDetect_of_steady _ (by rw [takeInput_input, hinput, takeInput_prev])
  have hbefore : beforeCommand s = takeInput s := by
    rw [beforeCommand_eq, hsense, seqStep_idle_eq_ite (takeInput s) hf]
    exact if_neg htrigger
  have hengine : engineStep (reply HostOut.none (takeInput s)) = reply HostOut.none (takeInput s) :=
    engineStep_idle _ hidle
  refine ⟨by simpa [State.quiescent, State.en, hidle, hf] using hquiet, ?_⟩
  rw [step_of_not_reset s (presents_ne_reset (by rw [hinput])), presents_none _ (by rw [hinput]) (by rw [hinput]),
    hbefore, commandStep_none, endTick_eq, hengine, extShift_no_rise _ _ (by simp), takeInput, hinput]
  rfl

end Sys2Proof.Proofs

/-! ## Proofs: a transfer, tick by tick

A transfer takes 24 engine steps, three for each bit (R69 to R72). ENG after j of them is a function of the byte and j,
and so are the pins; the load tick runs the first step. -/

namespace Sys2Proof.Machine

section Transfer

/-! ### ENG after j engine steps -/

/-- The phase of the next step after j engine steps (R69 to R71). -/
def phaseAfter (j : Nat) : Phase := if j % 3 = 0 then .setup else if j % 3 = 1 then .high else .low

/-- ENG j engine steps after the load of byte `b`; `engineStep_of_engineAfter` ties it to `engineStep`. -/
def engineAfter (b : Byte) (j : Nat) : Engine := ⟨decide (j < 24), b, BitVec.ofNat 3 (j / 3), phaseAfter j⟩

variable {s : State} {b : Byte} {j q : Nat}

@[simp] theorem engineAfter_busy : (engineAfter b j).busy = decide (j < 24) := rfl

theorem engineAfter_zero : engineAfter b 0 = ⟨true, b, 0, .setup⟩ := rfl

theorem engineAfter_end : engineAfter b 24 = ⟨false, b, 0, .setup⟩ := rfl

theorem engineAfter_setup (hq : q < 8) : engineAfter b (3 * q) = ⟨true, b, BitVec.ofNat 3 q, .setup⟩ := by
  simp [engineAfter, phaseAfter, show 3 * q < 24 by omega]

theorem engineAfter_high (hq : q < 8) : engineAfter b (3 * q + 1) = ⟨true, b, BitVec.ofNat 3 q, .high⟩ := by
  simp [engineAfter, phaseAfter, show 3 * q + 1 < 24 by omega, show (3 * q + 1) / 3 = q by omega,
    show (3 * q + 1) % 3 = 1 by omega]

theorem engineAfter_low (hq : q < 8) : engineAfter b (3 * q + 2) = ⟨true, b, BitVec.ofNat 3 q, .low⟩ := by
  simp [engineAfter, phaseAfter, show 3 * q + 2 < 24 by omega, show (3 * q + 2) / 3 = q by omega,
    show (3 * q + 2) % 3 = 2 by omega]

theorem toNat_bitIndex (hq : q < 8) : (BitVec.ofNat 3 q).toNat = q := by
  rw [BitVec.toNat_ofNat, Nat.mod_eq_of_lt hq]

/-- The engine step from its count: SETUP puts bit j / 3 on DATA, HIGH raises CLK, LOW lowers it, and the last LOW
writes LAST (R69 to R72). -/
theorem engineStep_of_engineAfter (h : s.eng = engineAfter b j) (hj : j < 24) :
    engineStep s =
      { s with
        eng := engineAfter b (j + 1)
        data := if j % 3 = 0 then b.getLsbD (j / 3) else s.data
        clk := if j % 3 = 0 then s.clk else decide (j % 3 = 1)
        last := if j = 23 then b else s.last } := by
  obtain ⟨q, hq, rfl | rfl | rfl⟩ : ∃ q < 8, j = 3 * q ∨ j = 3 * q + 1 ∨ j = 3 * q + 2 :=
    ⟨j / 3, by omega, by omega⟩
  · rw [engineAfter_setup hq] at h
    rw [engineStep_setup s (by rw [h]) (by rw [h]), h, engineAfter_high hq, toNat_bitIndex hq]
    simp [show 3 * q ≠ 23 by omega]
  · rw [engineAfter_high hq] at h
    rw [engineStep_high s (by rw [h]) (by rw [h]), h, engineAfter_low hq]
    simp [show 3 * q + 1 ≠ 23 by omega, show (3 * q + 1) % 3 = 1 by omega]
  · rw [engineAfter_low hq] at h
    obtain rfl | hq7 := Nat.eq_or_lt_of_le (Nat.le_of_lt_succ hq)
    · rw [engineStep_low_last s (by rw [h]) (by rw [h]) (by rw [h]; rfl), h]
      rfl
    · have hn : BitVec.ofNat 3 q ≠ 7 := by
        intro hn
        have := congrArg BitVec.toNat hn
        rw [toNat_bitIndex hq] at this
        exact absurd this (Nat.ne_of_lt hq7)
      have hnext : engineAfter b (3 * q + 2 + 1) = ⟨true, b, BitVec.ofNat 3 q + 1, .setup⟩ := by
        rw [show 3 * q + 2 + 1 = 3 * (q + 1) by omega, engineAfter_setup (show q + 1 < 8 by omega), BitVec.ofNat_add]
        rfl
      rw [engineStep_low_more s (by rw [h]) (by rw [h]) (by rw [h]; exact hn), h, hnext]
      simp [show 3 * q + 2 ≠ 23 by omega, show (3 * q + 2) % 3 = 2 by omega]

/-! ### The running transfer through a tick -/

theorem busy_of_engineAfter (h : s.eng = engineAfter b j) (hj : j < 24) : s.eng.busy = true := by
  rw [h, engineAfter_busy, decide_eq_true hj]

theorem tickNext_engineAfter (hr : (nextInput s).rst = false) (h : s.eng = engineAfter b j) (hj : j < 24) :
    (tickNext s).eng = engineAfter b (j + 1) ∧ (tickNext s).last = if j = 23 then b else s.last := by
  have hafter : (afterCommand s).eng = engineAfter b j := by
    rw [afterCommand_eng_of_busy s (busy_of_engineAfter h hj), h]
  rw [tickNext_of_not_rst s hr, endTick_eng, endTick_last, engineStep_of_engineAfter hafter hj]
  exact ⟨rfl, by rw [afterCommand, commandStep_last, beforeCommand_last]⟩

/-- A transfer runs on to its end, whatever the host and the sequencer do (R75). -/
theorem stateAfter_engineAfter (h : s.eng = engineAfter b j) (hj : j < 24) {n : Nat} (hn : j + n ≤ 24)
    (hr : NoReset n s) :
    (stateAfter n s).eng = engineAfter b (j + n) ∧ (stateAfter n s).last = if j + n = 24 then b else s.last := by
  refine stateAfter_induction s
    (P := fun k u => u.eng = engineAfter b (j + k) ∧ u.last = if j + k = 24 then b else s.last)
    hr ⟨h, (if_neg (Nat.ne_of_lt hj)).symm⟩ (fun k u hk _ hrst ⟨heng, hlast⟩ => ?_) n le_rfl
  obtain ⟨heng', hlast'⟩ := tickNext_engineAfter hrst heng (by omega)
  refine ⟨heng', ?_⟩
  rw [hlast', hlast, if_neg (show ¬j + k = 24 by omega)]
  exact if_congr (by omega) rfl rfl

/-! ### CLK and DATA during a transfer -/

/-- ENG and CLK j engine steps after the load of byte `b` (R72). -/
structure TransferAfter (b : Byte) (j : Nat) (s : State) : Prop where
  eng : s.eng = engineAfter b j
  clk : s.clk = decide (j % 3 = 2)

/-- Sub-step 4 takes a transfer one step on. -/
theorem TransferAfter.endTick (h : TransferAfter b j s) (hj : j < 24) : TransferAfter b (j + 1) (endTick s) := by
  refine ⟨?_, ?_⟩
  · rw [endTick_eng, engineStep_of_engineAfter h.eng hj]
  · rw [endTick_clk, engineStep_of_engineAfter h.eng hj]
    simp only [h.clk]
    split <;> exact decide_eq_decide.mpr (by omega)

theorem TransferAfter.endTick_data (h : TransferAfter b j s) (hj : j < 24) :
    (Machine.endTick s).data = if j % 3 = 0 then b.getLsbD (j / 3) else s.data := by
  rw [Machine.endTick_data, engineStep_of_engineAfter h.eng hj]

/-- Sub-steps 1 to 3 leave a running transfer and CLK alone (R35, R75). -/
theorem TransferAfter.afterCommand (h : TransferAfter b j s) (hj : j < 24) : TransferAfter b j (afterCommand s) := by
  refine ⟨?_, ?_⟩
  · rw [afterCommand_eng_of_busy s (busy_of_engineAfter h.eng hj), h.eng]
  · rw [Machine.afterCommand, commandStep_clk, beforeCommand_clk, h.clk]

theorem TransferAfter.tickNext (h : TransferAfter b j s) (hj : j < 24) (hr : (nextInput s).rst = false) :
    TransferAfter b (j + 1) (tickNext s) := by
  rw [tickNext_of_not_rst s hr]
  exact (h.afterCommand hj).endTick hj

theorem TransferAfter.tickNext_data (h : TransferAfter b j s) (hj : j < 24) (hr : (nextInput s).rst = false) :
    (Machine.tickNext s).data = if j % 3 = 0 then b.getLsbD (j / 3) else s.data := by
  rw [tickNext_of_not_rst s hr, (h.afterCommand hj).endTick_data hj, Machine.afterCommand, commandStep_data,
    beforeCommand_data]

/-- After j engine steps CLK has risen (j + 1) / 3 times, and EXT_SR holds that many bits, the last one in Q0 (R78). -/
def ShiftedIn (b : Byte) (j : Nat) (s : State) : Prop :=
  ∀ k < (j + 1) / 3, s.extSr.getLsbD k = b.getLsbD ((j + 1) / 3 - 1 - k)

/-- A transfer whose load tick was run: DATA holds the bit of the last step, and EXT_SR the bits clocked (R72, R78). -/
structure LoadedTransfer (b : Byte) (j : Nat) (s : State) : Prop extends TransferAfter b j s where
  data : s.data = b.getLsbD ((j - 1) / 3)
  shiftedIn : ShiftedIn b j s

theorem LoadedTransfer.tickNext_data (h : LoadedTransfer b j s) (hpos : 0 < j) (hj : j < 24)
    (hr : (nextInput s).rst = false) : (tickNext s).data = b.getLsbD (j / 3) := by
  rw [h.toTransferAfter.tickNext_data hj hr]
  split
  · rfl
  · rw [h.data, show (j - 1) / 3 = j / 3 by omega]

/-- A rise of CLK shifts the bit on DATA into EXT_SR; the other steps leave EXT_SR alone (R78). -/
theorem LoadedTransfer.tickNext_shiftedIn (h : LoadedTransfer b j s) (hpos : 0 < j) (hj : j < 24)
    (hr : (nextInput s).rst = false) : ShiftedIn b (j + 1) (tickNext s) := by
  have hafter := h.toTransferAfter.afterCommand hj
  have hclk := (h.toTransferAfter.tickNext hj hr).clk
  have hdata := h.tickNext_data hpos hj hr
  have hsame : (afterCommand s).extSr = s.extSr := by rw [afterCommand, commandStep_extSr, beforeCommand_extSr]
  rw [tickNext_of_not_rst s hr] at hclk hdata ⊢
  intro k hk
  by_cases hrise : j % 3 = 1
  · have hlow : (afterCommand s).clk = false := by rw [hafter.clk]; exact decide_eq_false (by omega)
    have hhigh : (endTick (afterCommand s)).clk = true := by rw [hclk]; exact decide_eq_true (by omega)
    rw [endTick_extSr_getLsbD_of_rise _ hlow hhigh (by omega), hsame]
    split
    · rw [hdata, show (j + 1 + 1) / 3 - 1 - k = j / 3 by omega]
    · rw [h.shiftedIn (k - 1) (by omega), show (j + 1) / 3 - 1 - (k - 1) = (j + 1 + 1) / 3 - 1 - k by omega]
  · have hno : (afterCommand s).clk = true ∨ (endTick (afterCommand s)).clk = false := by
      rw [hafter.clk, hclk, decide_eq_true_iff, decide_eq_false_iff_not]
      omega
    rw [endTick_extSr_of_no_rise _ hno, hsame, h.shiftedIn k (by omega),
      show (j + 1) / 3 - 1 - k = (j + 1 + 1) / 3 - 1 - k by omega]

theorem LoadedTransfer.tickNext (h : LoadedTransfer b j s) (hpos : 0 < j) (hj : j < 24)
    (hr : (nextInput s).rst = false) : LoadedTransfer b (j + 1) (tickNext s) :=
  ⟨h.toTransferAfter.tickNext hj hr, h.tickNext_data hpos hj hr, h.tickNext_shiftedIn hpos hj hr⟩

theorem LoadedTransfer.stateAfter (h : LoadedTransfer b 1 s) (hr : NoReset 23 s) {n : Nat} (hn : n ≤ 23) :
    LoadedTransfer b (n + 1) (stateAfter n s) :=
  stateAfter_induction s (P := fun k u => LoadedTransfer b (k + 1) u) hr h
    (fun _ _ hk _ hrst hu => hu.tickNext (Nat.succ_pos _) (Nat.succ_lt_succ hk) hrst) n hn

/-! ### The load tick -/

theorem rst_of_tickNext_busy (hbusy : (tickNext s).eng.busy = true) : (nextInput s).rst = false := by
  by_contra hrst
  rw [tickNext_of_rst s (Bool.eq_true_of_not_eq_false hrst)] at hbusy
  simp [resetTick_eq, Engine.reset] at hbusy

/-- A byte loaded in sub-step 2 or 3 is a transfer of no step yet (R67). -/
theorem transferAfter_zero (hclk : s.clk = false) (heng : (afterCommand s).eng = ⟨true, b, 0, .setup⟩) :
    TransferAfter b 0 (afterCommand s) :=
  ⟨heng, by rw [afterCommand, commandStep_clk, beforeCommand_clk, hclk]; rfl⟩

/-- A tick that starts a transfer runs the first step of the transfer in sub-step 4 (R67). -/
theorem loadedTransfer_of_load (hclk : s.clk = false) (hidle : s.eng.busy = false)
    (hbusy : (tickNext s).eng.busy = true) : LoadedTransfer (tickNext s).eng.sh 1 (tickNext s) := by
  have hr := rst_of_tickNext_busy hbusy
  rw [tickNext_of_not_rst s hr, endTick_eng] at hbusy ⊢
  obtain heng | ⟨b, heng⟩ := afterCommand_eng_eq_or_load s
  · have hrun := busy_of_engineStep_busy _ hbusy
    simp [heng, hidle] at hrun
  · have hload := transferAfter_zero hclk heng
    rw [engineStep_eng_sh, heng]
    exact ⟨hload.endTick (by omega), hload.endTick_data (by omega), fun k hk => absurd hk (by omega)⟩

theorem last_of_load (hidle : s.eng.busy = false) (hbusy : (tickNext s).eng.busy = true) :
    (tickNext s).last = s.last := by
  simp [tickNext_last s (rst_of_tickNext_busy hbusy), hidle]

/-! ### The engine of a sound state -/

/-- A transfer between its first and its last step; after the SETUP step of a bit DATA holds that bit (R69, R72). -/
structure SoundTransfer (b : Byte) (j : Nat) (s : State) : Prop extends TransferAfter b j s where
  pos : 0 < j
  lt : j < 24
  data : j % 3 ≠ 0 → s.data = b.getLsbD (j / 3)

/-- The engine rests with CLK at 0, or a transfer is some number of steps on (R67, R69 to R72). -/
def EngineSound (s : State) : Prop :=
  (s.eng = ⟨false, s.eng.sh, 0, .setup⟩ ∧ s.clk = false) ∨ ∃ j, SoundTransfer s.eng.sh j s

theorem Inv.soundTransfer (h : Inv s) (hbusy : s.eng.busy = true) : ∃ j, SoundTransfer s.eng.sh j s := by
  have hlt := s.eng.n.isLt
  have hindex : BitVec.ofNat 3 s.eng.n.toNat = s.eng.n := by simp
  have hclk := h.clkShape
  have hdata := h.dataShape hbusy
  have heng : s.eng = ⟨true, s.eng.sh, s.eng.n, s.eng.phase⟩ := by rw [← hbusy]
  cases hp : s.eng.phase <;> rw [hbusy, hp] at hclk <;> rw [hp] at heng hdata
  case setup =>
    have hpos : s.eng.n.toNat ≠ 0 := fun h0 => h.setupShape hbusy hp (BitVec.eq_of_toNat_eq h0)
    refine ⟨3 * s.eng.n.toNat, ⟨?_, ?_⟩, by omega, by omega, fun hne => absurd hne (by omega)⟩
    · rw [engineAfter_setup hlt, hindex, ← heng]
    · rw [hclk, decide_eq_false (show ¬3 * s.eng.n.toNat % 3 = 2 by omega)]
      rfl
  case high =>
    refine ⟨3 * s.eng.n.toNat + 1, ⟨?_, ?_⟩, by omega, by omega, fun _ => ?_⟩
    · rw [engineAfter_high hlt, hindex, ← heng]
    · rw [hclk, decide_eq_false (show ¬(3 * s.eng.n.toNat + 1) % 3 = 2 by omega)]
      rfl
    · rw [hdata (by simp), show (3 * s.eng.n.toNat + 1) / 3 = s.eng.n.toNat by omega]
  case low =>
    refine ⟨3 * s.eng.n.toNat + 2, ⟨?_, ?_⟩, by omega, by omega, fun _ => ?_⟩
    · rw [engineAfter_low hlt, hindex, ← heng]
    · rw [hclk, decide_eq_true (show (3 * s.eng.n.toNat + 2) % 3 = 2 by omega)]
      rfl
    · rw [hdata (by simp), show (3 * s.eng.n.toNat + 2) / 3 = s.eng.n.toNat by omega]

theorem Inv.clk_of_idle (h : Inv s) (hidle : s.eng.busy = false) : s.clk = false := by
  rw [h.clkShape, hidle, Bool.false_and]

theorem Inv.engineSound (h : Inv s) : EngineSound s := by
  cases hb : s.eng.busy
  · obtain ⟨hn, hp⟩ := h.idleShape hb
    exact .inl ⟨by rw [← hb, ← hn, ← hp], h.clk_of_idle hb⟩
  · exact .inr (h.soundTransfer hb)

end Transfer

end Sys2Proof.Machine

/-! ## Proofs: the pins in a transfer, 40_shift_driver.md section 1

The load tick runs the first of the 24 steps, so after k more ticks the transfer is k + 1 steps on. -/

namespace Sys2Proof.Machine

section RisingEdges

variable (s : State)

/-- With the engine idle CLK stays 0 in a tick (R45, R73). -/
theorem tickNext_clk_of_idle (hclk : s.clk = false) (hidle : s.eng.busy = false) : (tickNext s).clk = false := by
  cases hr : (nextInput s).rst
  · have hafter : (afterCommand s).clk = false := by rw [afterCommand, commandStep_clk, beforeCommand_clk, hclk]
    rw [tickNext_of_not_rst s hr, endTick_clk]
    obtain heng | ⟨b, heng⟩ := afterCommand_eng_eq_or_load s
    · rw [engineStep_idle _ (by rw [heng, hidle]), hafter]
    · rw [engineStep_setup _ (by rw [heng]) (by rw [heng])]
      exact hafter
  · rw [tickNext_of_rst s hr, resetTick_clk]

/-- The trace lists the states after 1, 2, … ticks. -/
theorem trace_eq_map (k : Nat) : trace k s = (List.range k).map fun j => stateAfter (j + 1) s := by
  induction k generalizing s with
  | zero => rfl
  | succ k ih =>
    rw [trace, step_eq_next, List.range_succ_eq_map, List.map_cons, List.map_map]
    exact congrArg (tickNext s :: ·) (ih (tickNext s))

/-- The trace with the state before each tick. -/
theorem zip_trace_eq_map (k : Nat) :
    (s :: trace k s).zip (trace k s) = (List.range k).map fun j => (stateAfter j s, stateAfter (j + 1) s) := by
  refine List.ext_getElem (by simp [trace_eq_map]) fun j hj _ => ?_
  cases j with
  | zero => simp [trace_eq_map]
  | succ j => simp [trace_eq_map]

/-- The bits clocked in `k` ticks, by the ticks in which CLK rises. -/
theorem bitsClocked_eq_map (k : Nat) :
    bitsClocked k s =
      ((List.range k).filter fun j => !(stateAfter j s).clk && (stateAfter (j + 1) s).clk).map
        fun j => (stateAfter (j + 1) s).data := by
  rw [bitsClocked, zip_trace_eq_map, List.filter_map, List.map_map]
  rfl

end RisingEdges

/-- The steps of a transfer in which CLK rises are the middle ones of its eight bits (R72). -/
theorem filter_rising_steps :
    (List.range 24).filter (fun j => !decide (j % 3 = 2) && decide ((j + 1) % 3 = 2)) =
      (List.range 8).map fun k => 3 * k + 1 := by
  decide

end Sys2Proof.Machine

namespace Sys2Proof.Proofs

open Sys2Proof Sys2Proof.Machine

/-- Settles O35: k ticks after the load tick the transfer is k + 1 steps on. -/
theorem transferFollowsTimingTable : Obligations.TransferFollowsTimingTable := by
  intro s s0 hclk hidle hstep hbusy hreset k hk
  obtain rfl := tickNext_eq_of_step s hstep
  have hload := loadedTransfer_of_load hclk hidle hbusy
  have hrun := hload.stateAfter hreset hk
  obtain ⟨-, hlast⟩ := stateAfter_engineAfter hload.eng (by omega) (show 1 + k ≤ 24 by omega)
    (NoReset.mono _ hreset hk)
  refine ⟨_, runTicks_eq_next _ k, hrun.data, ?_, fun hlt => ⟨?_, ?_⟩, fun hend => ⟨?_, ?_⟩⟩
  · rw [hrun.clk]
    exact decide_eq_decide.mpr (by omega)
  · rw [hrun.eng, engineAfter_busy, decide_eq_true (Nat.succ_lt_succ hlt)]
  · rw [hlast, if_neg (by omega), last_of_load hidle hbusy]
  · rw [hrun.eng, hend]
    rfl
  · rw [hlast, if_pos (by omega)]

/-- Settles O36: CLK rises in the HIGH step of each bit, with the bit on DATA; the idle engine leaves CLK at 0. -/
theorem transferClocksEightBitsLsbFirst : Obligations.TransferClocksEightBitsLsbFirst := by
  refine ⟨fun s s0 hclk hidle hstep hbusy hreset => ?_, fun s hinv hidle =>
    ⟨_, step_eq_next s, hinv.clk_of_idle hidle, tickNext_clk_of_idle s (hinv.clk_of_idle hidle) hidle⟩⟩
  obtain rfl := tickNext_eq_of_step s hstep
  have hrun (j : Nat) (hj : j < 24) : LoadedTransfer (tickNext s).eng.sh (j + 1) (stateAfter (j + 1) s) :=
    (loadedTransfer_of_load hclk hidle hbusy).stateAfter hreset (Nat.le_of_lt_succ hj)
  have hclks (j : Nat) (hj : j < 24) : (stateAfter j s).clk = decide (j % 3 = 2) := by
    cases j with
    | zero => exact hclk
    | succ j => exact (hrun j (Nat.lt_of_succ_lt hj)).clk
  have hrise : ∀ j ∈ List.range 24, (!(stateAfter j s).clk && (stateAfter (j + 1) s).clk) =
      (!decide (j % 3 = 2) && decide ((j + 1) % 3 = 2)) := by
    intro j hj
    rw [List.mem_range] at hj
    rw [hclks j hj, (hrun j hj).clk]
  rw [bitsClocked_eq_map, List.filter_congr hrise, filter_rising_steps, List.map_map]
  refine List.map_congr_left fun k hk => ?_
  rw [List.mem_range] at hk
  rw [Function.comp_apply, (hrun (3 * k + 1) (by omega)).data, show (3 * k + 1 + 1 - 1) / 3 = k by omega]

/-- Settles O37: after the 24 steps EXT_SR holds all eight bits, bit 7 in Q0. -/
theorem shiftRegisterHoldsReversedByte : Obligations.ShiftRegisterHoldsReversedByte := by
  intro s s0 hclk hidle hstep hbusy hreset
  obtain rfl := tickNext_eq_of_step s hstep
  have hend := (loadedTransfer_of_load hclk hidle hbusy).stateAfter hreset le_rfl
  exact ⟨_, runTicks_eq_next _ 23, hend.shiftedIn⟩

/-- Settles O38: DATA is written in SETUP steps only, which leave CLK at 0. -/
theorem dataChangesOnlyWhileClockLow : Obligations.DataChangesOnlyWhileClockLow := by
  refine fun s hinv hr => ⟨_, step_eq_next s, fun hdata => ?_⟩
  cases hb : s.eng.busy
  · exact ⟨hinv.clk_of_idle hb, tickNext_clk_of_idle s (hinv.clk_of_idle hb) hb⟩
  · obtain ⟨j, hrun⟩ := hinv.soundTransfer hb
    have hsetup : j % 3 = 0 := by
      by_contra hnot
      exact hdata (by rw [hrun.tickNext_data hrun.lt hr, if_neg hnot])
    rw [hrun.clk, (hrun.tickNext hrun.lt hr).clk]
    exact ⟨decide_eq_false (by omega), decide_eq_false (by omega)⟩

end Sys2Proof.Proofs

/-! ## Proofs: the sequencer over several ticks

Each stage's ticks as a lemma about one tick, and the stages that last as an induction over their ticks. -/

namespace Sys2Proof.Machine

section Stages

variable {s : State}

/-! ### Registers that a stage keeps -/

theorem tickNext_ctrl (hr : (nextInput s).rst = false) (hw : ∀ m, presents (nextInput s) ≠ .word (.legal (.wrctrl m))) :
    (tickNext s).ctrl = s.ctrl := by
  rw [tickNext_of_not_rst s hr, endTick_ctrl, afterCommand, commandStep_ctrl _ _ hw, beforeCommand_ctrl]

theorem stateAfter_ctrl {k : Nat} (hr : NoReset k s) (hw : NoWrctrl k s) : (stateAfter k s).ctrl = s.ctrl :=
  stateAfter_induction s (P := fun _ u => u.ctrl = s.ctrl) hr rfl
    (fun j _ hj hinput hrst hu => (tickNext_ctrl hrst (hinput ▸ hw j hj)).trans hu) k le_rfl

theorem seqStep_acked (s : State) :
    (seqStep s).acked = if s.fsm = .wait ∧ s.dbcnt = 0 then false else s.acked := by
  split <;> rename_i h
  · rw [seqStep_sampling s h.1 h.2, sampleSwitches_acked]
  · rw [seqStep_eq_of_not_sampling s h]

/-- The sampling tick clears ACKED (R87). -/
theorem beforeCommand_acked (s : State) :
    (beforeCommand s).acked = if s.fsm = .wait ∧ s.dbcnt = 0 then false else s.acked := by
  rw [beforeCommand_eq, seqStep_acked]
  rfl

theorem commandStep_acked (s : State) (p : Presented) (h : p ≠ .word (.legal .ack)) :
    (commandStep p s).acked = s.acked := by
  match p with
  | .word (.legal i) => exact execNext_acked s i fun hi => h (by rw [hi])
  | .word (.illegal c op) => rfl
  | .none => rfl
  | .reset => rfl

theorem tickNext_acked (hr : (nextInput s).rst = false) (hack : presents (nextInput s) ≠ .word (.legal .ack))
    (hf : s.fsm ≠ .wait) : (tickNext s).acked = s.acked := by
  rw [tickNext_of_not_rst s hr, endTick_acked, afterCommand, commandStep_acked _ _ hack, beforeCommand_acked,
    if_neg fun hw => hf hw.1]

/-! ### DHOLD (R90, R101) -/

theorem holdw_iff (s : State) : s.holdw = true ↔ s.fsm = .dhold ∧ s.hold = true ∧ s.acked = false := by
  simp [holdw_eq, State.hold, and_assoc]

/-- With HOLD = 1 and no ACK a tick stays in DHOLD (R90). -/
theorem tickNext_fsm_of_holdw (hr : (nextInput s).rst = false) (h : s.holdw = true) : (tickNext s).fsm = .dhold := by
  obtain ⟨hf, hhold, hack⟩ := (holdw_iff s).mp h
  simp [tickNext_fsm s hr, nextFsm, hf, hhold, hack]

theorem tickNext_holdw (hr : (nextInput s).rst = false) (hw : ∀ m, presents (nextInput s) ≠ .word (.legal (.wrctrl m)))
    (hack : presents (nextInput s) ≠ .word (.legal .ack)) (h : s.holdw = true) : (tickNext s).holdw = true := by
  obtain ⟨hf, hhold, hacked⟩ := (holdw_iff s).mp h
  refine (holdw_iff _).mpr ⟨tickNext_fsm_of_holdw hr h, ?_, ?_⟩
  · rw [State.hold, tickNext_ctrl hr hw, ← State.hold, hhold]
  · rw [tickNext_acked hr hack (by simp [hf]), hacked]

/-- In DHOLD with HOLD = 0 or after an ACK the sequencer goes on to ARM (R90). -/
theorem tickNext_fsm_of_released (hr : (nextInput s).rst = false) (hf : s.fsm = .dhold)
    (h : s.hold = false ∨ s.acked = true) : (tickNext s).fsm = .arm := by
  rw [tickNext_fsm s hr, nextFsm, hf]
  obtain h | h := h <;> simp [h]

/-! ### ARM and CLEAR (R91, R92, R94) -/

theorem tickNext_fsm_of_arm (hr : (nextInput s).rst = false) (hf : s.fsm = .arm) : (tickNext s).fsm = .clear := by
  rw [tickNext_fsm s hr, nextFsm, hf]

theorem tickNext_fsm_of_clear (hr : (nextInput s).rst = false) (hf : s.fsm = .clear) : (tickNext s).fsm = .idle := by
  rw [tickNext_fsm s hr, nextFsm, hf]

/-- A tick in which sub-steps 1 and 2 leave no flag leaves none (R28). -/
theorem tickNext_pend_eq_zero (hr : (nextInput s).rst = false) (h : (beforeCommand s).pend = 0) :
    (tickNext s).pend = 0 := by
  refine BitVec.eq_of_getLsbD_eq fun k _ => (Bool.eq_false_iff.mpr fun hset => ?_).trans BitVec.getLsbD_zero.symm
  rw [tickNext_of_not_rst s hr, endTick_pend] at hset
  have hbefore := commandStep_pend_getLsbD _ _ k hset
  rw [h] at hbefore
  exact absurd hbefore (by simp)

/-- The CLEAR tick leaves no flag (R92). -/
theorem tickNext_pend_of_clear (hr : (nextInput s).rst = false) (hf : s.fsm = .clear) : (tickNext s).pend = 0 :=
  tickNext_pend_eq_zero hr (by rw [beforeCommand_pend, if_pos hf])

/-- Without a WREDGE and an ARM of the host, EDGE is what the sequencer left (R27). -/
theorem tickNext_edge (hr : (nextInput s).rst = false) (hw : NoEdgeWriteAt 0 s) :
    (tickNext s).edge = if s.fsm = .arm then s.value else s.edge := by
  obtain ⟨harm, hwredge⟩ := hw
  rw [inputAt_zero] at harm hwredge
  rw [tickNext_of_not_rst s hr, endTick_edge, afterCommand, commandStep_edge _ _ harm hwredge, beforeCommand_edge]

theorem noEdgeWriteAt_stateAfter {j k : Nat} : NoEdgeWriteAt j (stateAfter k s) ↔ NoEdgeWriteAt (k + j) s := by
  rw [NoEdgeWriteAt, NoEdgeWriteAt, inputAt_stateAfter]

theorem noReset_stateAfter {j k n : Nat} (h : NoReset n s) (hn : j + k ≤ n) : NoReset k (stateAfter j s) := by
  intro i hi
  rw [inputAt_stateAfter]
  exact h (j + i) (by omega)

/-- The two last ticks of a sequence (R91, R92, R94). -/
theorem stateAfter_two_of_arm (hf : s.fsm = .arm) (hr : NoReset 2 s) :
    (stateAfter 2 s).fsm = .idle ∧ (stateAfter 2 s).pend = 0 ∧ (stateAfter 2 s).value = s.value ∧
      (NoEdgeWriteAt 0 s → NoEdgeWriteAt 1 s → (stateAfter 2 s).edge = s.value) := by
  have hr0 : (nextInput s).rst = false := hr 0 (by omega)
  have hr1 : (nextInput (tickNext s)).rst = false := by
    rw [nextInput_tickNext]
    exact hr 1 (by omega)
  have hclear := tickNext_fsm_of_arm hr0 hf
  rw [stateAfter_succ, stateAfter_one]
  refine ⟨tickNext_fsm_of_clear hr1 hclear, tickNext_pend_of_clear hr1 hclear, ?_, fun hw0 hw1 => ?_⟩
  · rw [tickNext_value_of_fsm_ne_wait _ hr1 (by simp [hclear]), tickNext_value_of_fsm_ne_wait _ hr0 (by simp [hf])]
  · rw [tickNext_edge hr1 (noEdgeWriteAt_stateAfter (k := 1).mpr hw1), if_neg (by simp [hclear]), tickNext_edge hr0 hw0,
      if_pos hf]

end Stages

end Sys2Proof.Machine

namespace Sys2Proof.Proofs

open Sys2Proof Sys2Proof.Machine

/-- Settles O49, by induction over the ticks: HOLDW = 1 with VALUE as it was is kept by each. -/
theorem holdWaitsForAck : Obligations.HoldWaitsForAck := by
  intro k s hf hhold hacked hreset hwrctrl hack
  have hkept := stateAfter_induction s (P := fun _ u => u.holdw = true ∧ u.value = s.value) hreset
    ⟨(holdw_iff s).mpr ⟨hf, hhold, hacked⟩, rfl⟩ ?_ k le_rfl
  · obtain ⟨hholdw, hvalue⟩ := hkept
    exact ⟨_, runTicks_eq_next s k, ((holdw_iff _).mp hholdw).1, hholdw, hvalue⟩
  · rintro j u hj hinput hrst ⟨hholdw, hvalue⟩
    refine ⟨tickNext_holdw hrst (hinput ▸ hwrctrl j hj) (hinput ▸ hack j hj) hholdw, ?_⟩
    rw [tickNext_value_of_fsm_ne_wait u hrst (by simp [((holdw_iff u).mp hholdw).1]), hvalue]

/-- Settles O50: ACK comes after the sequencer's stage of its own tick and before that of the next. -/
theorem ackReleasesHold : Obligations.AckReleasesHold := by
  intro s hf hhold hacked hp hr1
  have hr0 : (nextInput s).rst = false := rst_of_presents_word hp
  have hfsm := tickNext_fsm_of_holdw hr0 ((holdw_iff s).mpr ⟨hf, hhold, hacked⟩)
  have hflags : (tickNext s).chg = false ∧ (tickNext s).acked = true := by
    rw [tickNext_of_not_rst s hr0, endTick_chg, endTick_acked, afterCommand, ← inputAt_zero, hp]
    exact ⟨rfl, rfl⟩
  obtain ⟨hchg, hack⟩ := hflags
  refine ⟨⟨_, runTicks_eq_next s 1, hfsm, hchg, hack, ?_⟩, _, runTicks_eq_next s 2, ?_⟩
  · rw [stateAfter_one, State.irq, hchg, Bool.false_and]
  · exact tickNext_fsm_of_released (by rw [nextInput_tickNext, hr1]) hfsm (.inr hack)

/-- Settles O51: ARM writes VALUE into EDGE, CLEAR keeps it. -/
theorem clearTickPostcondition : Obligations.ClearTickPostcondition := by
  intro s hf hreset hw0 hw1
  obtain ⟨hidle, hpend, hvalue, hedge⟩ := stateAfter_two_of_arm hf hreset
  exact ⟨_, runTicks_eq_next s 2, by rw [hedge hw0 hw1, hvalue], hvalue, hpend, hidle⟩

end Sys2Proof.Proofs

/-! ## Proofs: the timing of a sequence, and of the engine's two users

WAIT counts DBCNT down, DSTART waits for the engine, DSHIFT for the sequencer's own transfer; the other stages of a
sequence take one tick each (R86 to R93). -/

namespace Sys2Proof.Machine

section Timing

variable {s : State}

/-! ### DBCNT and CHG through a tick -/

theorem seqStep_dbcnt (s : State) :
    (seqStep s).dbcnt =
      if s.fsm = .wait then if s.dbcnt = 0 then 0 else s.dbcnt - 1
      else if (seqStep s).fsm = .wait then s.inst.debounceTicks else s.dbcnt := by
  cases hf : s.fsm
  case idle =>
    rw [seqStep_idle s hf]
    split <;> simp [hf]
  case wait =>
    rw [seqStep_wait s hf, if_pos rfl]
    by_cases h0 : s.dbcnt = 0
    · rw [if_pos h0, if_pos h0, sampleSwitches_dbcnt, h0]
    · rw [if_neg h0, if_neg h0]
  case dstart =>
    rw [seqStep_dstart s hf]
    cases s.auto
    · simp
    · cases s.eng.busy <;> simp [hf]
  case dshift => rw [seqStep_dshift s hf]; split <;> simp [hf]
  case dhold => rw [seqStep_dhold s hf]; split <;> simp [hf]
  case arm => simp [seqStep_arm s hf]
  case clear => simp [seqStep_clear s hf]

/-- WAIT counts DBCNT down; entering it loads DEBOUNCE_TICKS (R86, R87). -/
theorem tickNext_dbcnt (hr : (nextInput s).rst = false) :
    (tickNext s).dbcnt =
      if s.fsm = .wait then if s.dbcnt = 0 then 0 else s.dbcnt - 1
      else if nextFsm s = .wait then s.inst.debounceTicks else s.dbcnt := by
  rw [tickNext_of_not_rst s hr, endTick_dbcnt, afterCommand, commandStep_dbcnt, ← beforeCommand_fsm, beforeCommand_eq,
    seqStep_dbcnt]
  rfl

theorem tickNext_chg_eq_false (hr : (nextInput s).rst = false) (hf : ¬(s.fsm = .wait ∧ s.dbcnt = 0))
    (h : s.chg = false) : (tickNext s).chg = false := by
  have hbefore : (beforeCommand s).chg = false := by
    rw [beforeCommand_chg, h, ← Bool.decide_and, decide_eq_false hf, Bool.or_false]
  rw [tickNext_of_not_rst s hr, endTick_chg, afterCommand]
  by_cases hack : presents (nextInput s) = .word (.legal .ack)
  · rw [hack]
    rfl
  · rw [commandStep_chg _ _ hack, hbefore]

/-! ### The trigger (R86) -/

theorem pend_ne_zero_of_flagInNextTick (h : FlagInNextTick s) : (edgeDetect (takeInput s)).pend ≠ 0 := by
  obtain ⟨k, hk, hflag⟩ := h
  have hbit : (edgeDetect (takeInput s)).pend.getLsbD k = true := by
    rw [edgeDetect_pend_getLsbD _ hk, takeInput_pend, takeInput_prev, takeInput_input, takeInput_edge]
    obtain hpend | ⟨hprev, hlevel, hedge⟩ | ⟨hprev, hlevel, hedge⟩ := hflag
    · simp [hpend]
    · simp [hprev, hlevel, hedge]
    · simp [hprev, hlevel, hedge]
  intro hzero
  rw [hzero] at hbit
  exact absurd hbit (by simp)

/-- With EN = 1 a flag that sub-step 2 finds starts a sequence (R86). -/
theorem nextFsm_of_trigger (hf : s.fsm = .idle) (hen : s.ctrl.getLsbD 0 = true)
    (hflag : (edgeDetect (takeInput s)).pend ≠ 0) : nextFsm s = .wait := by
  have hen' : s.en = true := hen
  rw [nextFsm, hf]
  exact if_pos (by rw [hen', Bool.true_and, bne_iff_ne]; exact hflag)

/-- From the trigger tick on WAIT counts down, and VALUE and CHG stay (R86, R87). -/
theorem stateAfter_waiting (hf : s.fsm = .idle) (hen : s.ctrl.getLsbD 0 = true) (hflag : FlagInNextTick s)
    (hr : NoReset (s.inst.debounceTicks.toNat + 1) s) :
    ∀ j ≤ s.inst.debounceTicks.toNat,
      (stateAfter (j + 1) s).fsm = .wait ∧
        (stateAfter (j + 1) s).dbcnt.toNat = s.inst.debounceTicks.toNat - j ∧
        (stateAfter (j + 1) s).value = s.value ∧ (s.chg = false → (stateAfter (j + 1) s).chg = false) := by
  have hr0 : (nextInput s).rst = false := hr 0 (Nat.succ_pos _)
  have hrest : NoReset s.inst.debounceTicks.toNat (tickNext s) :=
    noReset_stateAfter (j := 1) hr (Nat.le_of_eq (Nat.add_comm _ _))
  have hwait := nextFsm_of_trigger hf hen (pend_ne_zero_of_flagInNextTick hflag)
  have hnot : ¬(s.fsm = .wait ∧ s.dbcnt = 0) := by simp [hf]
  refine stateAfter_induction (tickNext s) (P := fun j u => u.fsm = .wait ∧
    u.dbcnt.toNat = s.inst.debounceTicks.toNat - j ∧ u.value = s.value ∧ (s.chg = false → u.chg = false)) hrest ?_ ?_
  · refine ⟨by rw [tickNext_fsm s hr0, hwait], ?_, by rw [tickNext_value s hr0, if_neg hnot],
      tickNext_chg_eq_false hr0 hnot⟩
    rw [tickNext_dbcnt hr0, if_neg (by simp [hf]), if_pos hwait, Nat.sub_zero]
  · rintro j u hj - hrst ⟨hfu, hcount, hvalue, hchg⟩
    have hne : u.dbcnt ≠ 0 := by
      intro h0
      have hzero : u.dbcnt.toNat = 0 := by rw [h0]; rfl
      omega
    have hnotu : ¬(u.fsm = .wait ∧ u.dbcnt = 0) := fun h => hne h.2
    refine ⟨?_, ?_, by rw [tickNext_value u hrst, if_neg hnotu, hvalue],
      fun h => tickNext_chg_eq_false hrst hnotu (hchg h)⟩
    · rw [tickNext_fsm u hrst, nextFsm, hfu]
      exact if_neg hne
    · rw [tickNext_dbcnt hrst, if_pos hfu, if_neg hne]
      bv_omega

/-- The sampling tick (R87). -/
theorem tickNext_of_sampling (hr : (nextInput s).rst = false) (hf : s.fsm = .wait) (h0 : s.dbcnt = 0) :
    (tickNext s).fsm = .dstart ∧ (tickNext s).value = (nextInput s).swIn ∧
      (presents (nextInput s) ≠ .word (.legal .ack) → (tickNext s).chg = true ∧ (tickNext s).acked = false) := by
  refine ⟨?_, by rw [tickNext_value s hr, if_pos ⟨hf, h0⟩], fun hack => ?_⟩
  · rw [tickNext_fsm s hr, nextFsm, hf]
    exact if_pos h0
  · rw [tickNext_of_not_rst s hr, endTick_chg, endTick_acked, afterCommand, commandStep_chg _ _ hack,
      commandStep_acked _ _ hack, beforeCommand_chg, beforeCommand_acked, if_pos ⟨hf, h0⟩]
    simp [hf, h0]

/-- The sampling tick comes DEBOUNCE_TICKS + 1 ticks after the trigger tick (R93). -/
theorem stateAfter_sampled (hf : s.fsm = .idle) (hen : s.ctrl.getLsbD 0 = true) (hflag : FlagInNextTick s)
    (hr : NoReset (s.inst.debounceTicks.toNat + 2) s) :
    (stateAfter (s.inst.debounceTicks.toNat + 2) s).fsm = .dstart ∧
      (stateAfter (s.inst.debounceTicks.toNat + 2) s).value =
        (inputAt s (s.inst.debounceTicks.toNat + 1)).swIn ∧
      (presents (inputAt s (s.inst.debounceTicks.toNat + 1)) ≠ .word (.legal .ack) →
        (stateAfter (s.inst.debounceTicks.toNat + 2) s).chg = true ∧
          (stateAfter (s.inst.debounceTicks.toNat + 2) s).acked = false) := by
  obtain ⟨hwait, hcount, -, -⟩ := stateAfter_waiting hf hen hflag (hr.mono s (by omega)) _ le_rfl
  have hzero : (stateAfter (s.inst.debounceTicks.toNat + 1) s).dbcnt = 0 := by
    rw [Nat.sub_self] at hcount
    exact BitVec.eq_of_toNat_eq hcount
  have hinput := nextInput_stateAfter s (s.inst.debounceTicks.toNat + 1)
  rw [stateAfter_succ, ← hinput]
  exact tickNext_of_sampling (by rw [hinput]; exact hr _ (by omega)) hwait hzero

/-! ### The end of a sequence (R89 to R94) -/

theorem noWrctrl_stateAfter {j k n : Nat} (h : NoWrctrl n s) (hn : j + k ≤ n) : NoWrctrl k (stateAfter j s) := by
  intro i hi
  rw [inputAt_stateAfter]
  exact h (j + i) (by omega)

/-- With HOLD = 0 the sequencer passes DHOLD in one tick (R90). -/
theorem stateAfter_two_of_nextFsm_dhold (hf : nextFsm s = .dhold) (hwait : s.fsm ≠ .wait)
    (hhold : s.ctrl.getLsbD 2 = false) (hr : NoReset 2 s) (hw : NoWrctrl 1 s) :
    (stateAfter 2 s).fsm = .arm ∧ (stateAfter 2 s).value = s.value := by
  have hr0 : (nextInput s).rst = false := hr 0 (by omega)
  have hr1 : (nextInput (tickNext s)).rst = false := by
    rw [nextInput_tickNext]
    exact hr 1 (by omega)
  have hdhold : (tickNext s).fsm = .dhold := by rw [tickNext_fsm s hr0, hf]
  have hrelease : (tickNext s).hold = false := by rw [State.hold, tickNext_ctrl hr0 (hw 0 (by omega)), hhold]
  rw [stateAfter_succ, stateAfter_one]
  refine ⟨tickNext_fsm_of_released hr1 hdhold (.inl hrelease), ?_⟩
  rw [tickNext_value_of_fsm_ne_wait _ hr1 (by simp [hdhold]), tickNext_value_of_fsm_ne_wait _ hr0 hwait]

/-- With HOLD = 0 DHOLD, ARM and CLEAR take one tick each, and the sequence ends (R90 to R92). -/
theorem stateAfter_four_of_nextFsm_dhold (hf : nextFsm s = .dhold) (hwait : s.fsm ≠ .wait)
    (hhold : s.ctrl.getLsbD 2 = false) (hr : NoReset 4 s) (hw : NoWrctrl 1 s) :
    (stateAfter 3 s).fsm = .clear ∧ (stateAfter 4 s).fsm = .idle ∧ (stateAfter 4 s).pend = 0 ∧
      (stateAfter 4 s).value = s.value ∧
      (NoEdgeWriteAt 2 s → NoEdgeWriteAt 3 s → (stateAfter 4 s).edge = s.value) := by
  obtain ⟨harm, hvalue⟩ := stateAfter_two_of_nextFsm_dhold hf hwait hhold (hr.mono s (by omega)) hw
  have hr2 : (nextInput (stateAfter 2 s)).rst = false := by
    rw [nextInput_stateAfter]
    exact hr 2 (by omega)
  obtain ⟨hidle, hpend, hvalueEnd, hedge⟩ := stateAfter_two_of_arm harm (noReset_stateAfter hr (by omega))
  rw [noEdgeWriteAt_stateAfter, noEdgeWriteAt_stateAfter, hvalue] at hedge
  rw [hvalue] at hvalueEnd
  rw [← stateAfter_add] at hidle hpend hvalueEnd hedge
  exact ⟨by rw [stateAfter_succ, tickNext_fsm_of_arm hr2 harm], hidle, hpend, hvalueEnd, hedge⟩

/-! ### DSTART and DSHIFT (R88, R89) -/

/-- DSTART with AUTO = 1 and the engine free loads the pattern of VALUE, ahead of the host (R75, R88). -/
theorem tickNext_of_dstart_free (hr : (nextInput s).rst = false) (hf : s.fsm = .dstart)
    (hauto : s.ctrl.getLsbD 1 = true) (hfree : s.eng.busy = false) :
    (tickNext s).fsm = .dshift ∧ (tickNext s).value = s.value ∧
      (tickNext s).eng = engineAfter (memRead s s.value) 1 := by
  have hauto' : s.auto = true := hauto
  have hbefore : (beforeCommand s).eng = engineAfter (memRead s s.value) 0 := by
    rw [beforeCommand_eng, if_pos ⟨hf, hauto', hfree⟩, engineAfter_zero]
  have hafter : (afterCommand s).eng = engineAfter (memRead s s.value) 0 := by
    rw [afterCommand, commandStep_eng_of_busy _ _ (busy_of_engineAfter hbefore (by omega)), hbefore]
  refine ⟨?_, tickNext_value_of_fsm_ne_wait s hr (by simp [hf]), ?_⟩
  · rw [tickNext_fsm s hr, nextFsm, hf]
    simp [hauto', hfree]
  · rw [tickNext_of_not_rst s hr, endTick_eng, engineStep_of_engineAfter hafter (by omega)]

/-- DSTART with AUTO = 1 waits while a transfer runs (R88). -/
theorem stateAfter_dstart_waiting {b : Byte} {j n : Nat} (hf : s.fsm = .dstart) (hauto : s.ctrl.getLsbD 1 = true)
    (heng : s.eng = engineAfter b j) (hn : j + n ≤ 24) (hr : NoReset n s) (hw : NoWrctrl n s) :
    (stateAfter n s).fsm = .dstart ∧ (stateAfter n s).value = s.value ∧
      (stateAfter n s).ctrl.getLsbD 1 = true ∧ (stateAfter n s).eng = engineAfter b (j + n) := by
  refine stateAfter_induction s (P := fun k u => u.fsm = .dstart ∧ u.value = s.value ∧ u.ctrl.getLsbD 1 = true ∧
    u.eng = engineAfter b (j + k)) hr ⟨hf, rfl, hauto, heng⟩ ?_ n le_rfl
  rintro k u hk hinput hrst ⟨hfu, hvalue, hautou, hengu⟩
  have hautou' : u.auto = true := hautou
  have hbusy := busy_of_engineAfter hengu (by omega)
  refine ⟨?_, ?_, ?_, (tickNext_engineAfter hrst hengu (by omega)).1⟩
  · rw [tickNext_fsm u hrst, nextFsm, hfu]
    simp [hautou', hbusy]
  · rw [tickNext_value_of_fsm_ne_wait u hrst (by simp [hfu]), hvalue]
  · rw [tickNext_ctrl hrst (hinput ▸ hw k hk), hautou]

/-- A waiting DSTART loads in the tick after the running transfer's last tick (R75, R88). -/
theorem stateAfter_dstart_load {b : Byte} {j n : Nat} (hf : s.fsm = .dstart) (hauto : s.ctrl.getLsbD 1 = true)
    (heng : s.eng = engineAfter b j) (hn : j + n = 24) (hr : NoReset (n + 1) s) (hw : NoWrctrl n s) :
    (stateAfter n s).fsm = .dstart ∧ (stateAfter n s).eng.busy = false ∧
      (stateAfter (n + 1) s).fsm = .dshift ∧ (stateAfter (n + 1) s).eng = engineAfter (memRead s s.value) 1 := by
  obtain ⟨hdstart, hvalue, hautoEnd, hengEnd⟩ :=
    stateAfter_dstart_waiting hf hauto heng (Nat.le_of_eq hn) (hr.mono s (Nat.le_succ n)) hw
  have hfree : (stateAfter n s).eng.busy = false := by rw [hengEnd, hn, engineAfter_end]
  have hrn : (nextInput (stateAfter n s)).rst = false := by
    rw [nextInput_stateAfter]
    exact hr n (Nat.lt_succ_self n)
  obtain ⟨hdshift, -, hload⟩ := tickNext_of_dstart_free hrn hdstart hautoEnd hfree
  rw [hvalue, memRead_congr s _ (stateAfter_inst s n)] at hload
  rw [stateAfter_succ]
  exact ⟨hdstart, hfree, hdshift, hload⟩

/-- DSHIFT waits while the sequencer's transfer runs (R89). -/
theorem stateAfter_dshift_waiting {b : Byte} {j n : Nat} (hf : s.fsm = .dshift) (heng : s.eng = engineAfter b j)
    (hn : j + n ≤ 24) (hr : NoReset n s) :
    (stateAfter n s).fsm = .dshift ∧ (stateAfter n s).value = s.value := by
  refine (stateAfter_induction s (P := fun k u => (u.fsm = .dshift ∧ u.value = s.value) ∧ u.eng = engineAfter b (j + k))
    hr ⟨⟨hf, rfl⟩, heng⟩ ?_ n le_rfl).1
  rintro k u hk - hrst ⟨⟨hfu, hvalue⟩, hengu⟩
  have hbusy := busy_of_engineAfter hengu (by omega)
  refine ⟨⟨?_, ?_⟩, (tickNext_engineAfter hrst hengu (by omega)).1⟩
  · rw [tickNext_fsm u hrst, nextFsm, hfu]
    exact if_pos hbusy
  · rw [tickNext_value_of_fsm_ne_wait u hrst (by simp [hfu]), hvalue]

/-- The sequencer's transfer of VALUE's pattern takes 24 ticks from DSTART; the sequencer is then still in DSHIFT, with
the engine free again (R88, R89). -/
theorem stateAfter_redisplay (hf : s.fsm = .dstart) (hauto : s.ctrl.getLsbD 1 = true) (hfree : s.eng.busy = false)
    (hr : NoReset 24 s) :
    (stateAfter 24 s).fsm = .dshift ∧ (stateAfter 24 s).value = s.value ∧ (stateAfter 24 s).eng.busy = false ∧
      (stateAfter 24 s).last = memRead s s.value := by
  obtain ⟨hdshift, hvalue, heng⟩ := tickNext_of_dstart_free (hr 0 (by omega)) hf hauto hfree
  have hrest : NoReset 23 (tickNext s) := noReset_stateAfter (j := 1) hr (by omega)
  obtain ⟨hend, hvalueEnd⟩ := stateAfter_dshift_waiting hdshift heng (by omega) hrest
  obtain ⟨hengEnd, hlast⟩ := stateAfter_engineAfter heng (by omega) (by omega) hrest
  rw [stateAfter_tickNext] at hend hvalueEnd hengEnd hlast
  exact ⟨hend, hvalueEnd.trans hvalue, by rw [hengEnd, engineAfter_end], hlast⟩

/-- A transfer that starts from the idle engine does not end, so does not write LAST, within 23 ticks (R72). -/
theorem stateAfter_last_of_idle (hidle : s.eng.busy = false) {n : Nat} (hn : n ≤ 23) (hr : NoReset n s) :
    (stateAfter n s).last = s.last := by
  refine (stateAfter_induction s (P := fun k u => u.last = s.last ∧
    (u.eng.busy = false ∨ ∃ b j, j ≤ k ∧ u.eng = engineAfter b j)) hr ⟨rfl, .inl hidle⟩ ?_ n le_rfl).1
  rintro k u hk - hrst ⟨hlast, hfree | ⟨b, j, hj, heng⟩⟩
  · refine ⟨by simp [tickNext_last u hrst, hfree, hlast], ?_⟩
    rw [tickNext_of_not_rst u hrst, endTick_eng]
    obtain heng | ⟨b, heng⟩ := afterCommand_eng_eq_or_load u
    · exact .inl (by rw [engineStep_idle _ (by rw [heng, hfree]), heng, hfree])
    · rw [← engineAfter_zero] at heng
      exact .inr ⟨b, 1, by omega, by rw [engineStep_of_engineAfter heng (by omega)]⟩
  · obtain ⟨hengNext, hlastNext⟩ := tickNext_engineAfter hrst heng (by omega)
    exact ⟨by rw [hlastNext, if_neg (by omega), hlast], .inr ⟨b, j + 1, by omega, hengNext⟩⟩

/-! ### The host's transfers (R75) -/

theorem TransferAt.exists_word {j : Nat} (h : TransferAt j s) : ∃ d, presents (inputAt s j) = .word d := by
  obtain ⟨v, hp⟩ | ⟨v, hp⟩ := h
  · exact ⟨_, hp⟩
  · exact ⟨_, hp⟩

theorem TransferAt.rst {j : Nat} (h : TransferAt j s) : (inputAt s j).rst = false := by
  obtain ⟨_, hp⟩ := h.exists_word
  exact rst_of_presents_word hp

theorem transferAt_stateAfter {j k : Nat} : TransferAt j (stateAfter k s) ↔ TransferAt (k + j) s := by
  rw [TransferAt, TransferAt, inputAt_stateAfter]

/-- A SHIFT or SHOW that finds the engine free at sub-step 3 is taken (R56). -/
theorem tickNext_accept_of_transfer (h : TransferAt 0 s) (hfree : (beforeCommand s).eng.busy = false) :
    (tickNext s).out.accept = true := by
  obtain ⟨d, hd⟩ := h.exists_word
  rw [inputAt_zero] at hd
  rw [tickNext_of_not_rst s (rst_of_presents_word hd), endTick_out, afterCommand, hd, commandStep_word_accept, hfree,
    Bool.and_false, Bool.not_false]

/-- From the idle engine a transfer presented in each of 25 ticks is taken: at once, or after the sequencer's own
transfer, which the sequencer does not follow by another one (R75). -/
theorem exists_accept_of_idle (hidle : s.eng.busy = false) (h : ∀ j < 25, TransferAt j s) :
    ∃ j < 25, (stateAfter (j + 1) s).out.accept = true := by
  by_cases hload : s.fsm = .dstart ∧ s.auto = true
  · obtain ⟨hf, hauto⟩ := hload
    obtain ⟨hdshift, -, hfree, -⟩ := stateAfter_redisplay hf hauto hidle fun j hj => (h j (by omega)).rst
    refine ⟨24, by omega, ?_⟩
    rw [stateAfter_succ]
    refine tickNext_accept_of_transfer (transferAt_stateAfter.mpr (h 24 (by omega))) ?_
    rw [beforeCommand_eng, if_neg (by simp [hdshift]), hfree]
  · refine ⟨0, by omega, tickNext_accept_of_transfer (h 0 (by omega)) ?_⟩
    rw [beforeCommand_eng, if_neg fun hl => hload ⟨hl.1, hl.2.1⟩, hidle]

end Timing

end Sys2Proof.Machine

namespace Sys2Proof.Proofs

open Sys2Proof Sys2Proof.Machine

/-- Settles O46: WAIT's countdown and the sampling tick at its end. -/
theorem triggerToSamplingTiming : Obligations.TriggerToSamplingTiming := by
  intro s hf hen hflag hr
  exact ⟨fun j hj => ⟨_, runTicks_eq_next s _, stateAfter_waiting hf hen hflag (hr.mono s (by omega)) j hj⟩,
    _, runTicks_eq_next s _, stateAfter_sampled hf hen hflag hr⟩

/-- Settles O47: after the sampling tick DSTART, DHOLD, ARM and CLEAR take one tick each. -/
theorem plainSequenceTiming : Obligations.PlainSequenceTiming := by
  intro s hf hen hauto hhold hflag hr hw
  obtain ⟨hwait, -, hvalueWait, -⟩ := stateAfter_waiting hf hen hflag (hr.mono s (by omega)) _ le_rfl
  obtain ⟨hdstart, hvalue, -⟩ := stateAfter_sampled hf hen hflag (hr.mono s (by omega))
  have hctrl := stateAfter_ctrl (hr.mono s (show s.inst.debounceTicks.toNat + 2 ≤ _ by omega))
    fun j hj => hw j (by omega)
  have hplain : (stateAfter (s.inst.debounceTicks.toNat + 2) s).auto = false := by rw [State.auto, hctrl, hauto]
  have hnext : nextFsm (stateAfter (s.inst.debounceTicks.toNat + 2) s) = .dhold := by
    rw [nextFsm, hdstart]
    simp [hplain]
  obtain ⟨hclear, hidle, hpend, hvalueEnd, hedge⟩ := stateAfter_four_of_nextFsm_dhold hnext (by simp [hdstart])
    (by rw [hctrl, hhold]) (noReset_stateAfter hr (by omega)) (noWrctrl_stateAfter hw (by omega))
  rw [← stateAfter_add] at hclear hidle hpend hvalueEnd hedge
  rw [noEdgeWriteAt_stateAfter, noEdgeWriteAt_stateAfter, ← hvalueEnd] at hedge
  exact ⟨⟨_, runTicks_eq_next s _, hwait, hvalueWait⟩, ⟨_, runTicks_eq_next s _, hdstart, hvalue⟩,
    ⟨_, runTicks_eq_next s _, hclear⟩, _, runTicks_eq_next s _, hidle, hpend, hvalueEnd.trans hvalue, hedge⟩

/-- Settles O48: 24 ticks of DSHIFT after DSTART's load, then DHOLD, ARM and CLEAR; a transfer the host starts meanwhile
ends too late to write LAST. -/
theorem redisplaySequenceTiming : Obligations.RedisplaySequenceTiming := by
  intro s hf hauto hhold hfree hr hw
  obtain ⟨hdshift, hvalue, hidle, hlast⟩ := stateAfter_redisplay hf hauto hfree (hr.mono s (by omega))
  have hctrl := stateAfter_ctrl (hr.mono s (show 24 ≤ 28 by omega)) fun j hj => hw j (by omega)
  have hrest : NoReset 4 (stateAfter 24 s) := noReset_stateAfter hr (by omega)
  have hnext : nextFsm (stateAfter 24 s) = .dhold := by
    rw [nextFsm, hdshift]
    simp [hidle]
  obtain ⟨hclear, hend, hpend, hvalueEnd, -⟩ := stateAfter_four_of_nextFsm_dhold hnext (by simp [hdshift])
    (by rw [hctrl, hhold]) hrest (noWrctrl_stateAfter hw (by omega))
  have hlastEnd := stateAfter_last_of_idle hidle (by omega) hrest
  rw [← stateAfter_add] at hclear hend hpend hvalueEnd hlastEnd
  exact ⟨⟨_, runTicks_eq_next s 27, hclear⟩, _, runTicks_eq_next s 28, hend, hpend, hvalueEnd.trans hvalue,
    hlastEnd.trans hlast⟩

/-- Settles O53: the sequencer's stage comes before WRCTRL in its own tick and finds the flag in the next. -/
theorem enablingStartsSequenceNextTick : Obligations.EnablingStartsSequenceNextTick := by
  intro s m hf hdis hpend hp hen hr1
  rw [inputAt_zero] at hp
  rw [← nextInput_tickNext] at hr1
  have hr0 := rst_of_presents_word hp
  have hdis' : s.en = false := hdis
  have hidle : (tickNext s).fsm = .idle := by
    rw [tickNext_fsm s hr0, nextFsm, hf]
    simp [hdis']
  have hctrl : (tickNext s).ctrl = m := by
    rw [tickNext_of_not_rst s hr0, endTick_ctrl, afterCommand, hp]
    rfl
  have hflag : (tickNext s).pend ≠ 0 := by
    rw [tickNext_of_not_rst s hr0, endTick_pend, afterCommand, hp, commandStep_pend _ _ (by simp), beforeCommand_pend,
      if_neg (by simp [hf])]
    exact fun hzero => hpend (BitVec.or_eq_zero_iff.mp hzero).1
  have hwait := nextFsm_of_trigger hidle (by rw [hctrl, hen])
    (show (edgeDetect (takeInput (tickNext s))).pend ≠ 0 from fun hzero => hflag (BitVec.or_eq_zero_iff.mp hzero).1)
  refine ⟨⟨_, runTicks_eq_next s 1, hidle, hctrl⟩, _, runTicks_eq_next s 2, ?_, ?_⟩
  · rw [stateAfter_succ, stateAfter_one, tickNext_fsm _ hr1, hwait]
  · rw [stateAfter_succ, stateAfter_one, tickNext_dbcnt hr1, if_neg (by simp [hidle]), if_pos hwait, tickNext_inst]

/-- Settles O40: DSTART waits out the running transfer, then loads; the first clause is a transfer 23 steps on. -/
theorem sequencerTransferNeverStarved : Obligations.SequencerTransferNeverStarved := by
  refine ⟨fun s hf hauto hbusy hphase hn hr hw => ?_, fun s hinv hf hauto hr hw => ?_⟩
  · have heng : s.eng = ⟨s.eng.busy, s.eng.sh, s.eng.n, s.eng.phase⟩ := rfl
    rw [hbusy, hn, hphase] at heng
    have hlast : s.eng = engineAfter s.eng.sh 23 := heng
    obtain ⟨hdstart, hfree, hdshift, hload⟩ := stateAfter_dstart_load hf hauto hlast rfl hr hw
    have hdone := (stateAfter_engineAfter hlast (by omega) (n := 1) le_rfl (hr.mono s (by omega))).2
    exact ⟨⟨_, runTicks_eq_next s 1, hdstart, hfree, hdone⟩, _, runTicks_eq_next s 2, hdshift,
      by rw [hload]; rfl, by rw [hload]; rfl⟩
  · cases hb : s.eng.busy
    · obtain ⟨hdshift, -, hload⟩ := tickNext_of_dstart_free (hr 0 (by omega)) hf hauto hb
      exact ⟨0, _, by omega, runTicks_eq_next s 1, hdshift, by rw [stateAfter_one, hload]; rfl,
        by rw [stateAfter_one, hload]; rfl⟩
    · obtain ⟨j, hrun⟩ := hinv.soundTransfer hb
      have hpos := hrun.pos
      have hlt := hrun.lt
      obtain ⟨-, -, hdshift, hload⟩ := stateAfter_dstart_load hf hauto hrun.eng (Nat.add_sub_of_le hlt.le)
        (hr.mono s (by omega)) fun i hi => hw i (by omega)
      exact ⟨24 - j, _, by omega, runTicks_eq_next s _, hdshift, by rw [hload]; rfl, by rw [hload]; rfl⟩

/-- Settles O39: a running transfer ends within 23 ticks, and from the idle engine a transfer is taken within 25. -/
theorem hostTransferNeverStarved : Obligations.HostTransferNeverStarved := by
  intro s hinv h
  cases hb : s.eng.busy
  · obtain ⟨j, hj, haccept⟩ := exists_accept_of_idle hb fun j hj => h j (by omega)
    exact ⟨j, _, by omega, runTicks_eq_next s _, haccept⟩
  · obtain ⟨i, hrun⟩ := hinv.soundTransfer hb
    have hpos := hrun.pos
    have hlt := hrun.lt
    obtain ⟨hend, -⟩ := stateAfter_engineAfter hrun.eng hlt (n := 24 - i) (by omega) fun j hj => (h j (by omega)).rst
    rw [Nat.add_sub_of_le (Nat.le_of_lt hlt)] at hend
    obtain ⟨j, hj, haccept⟩ := exists_accept_of_idle (s := stateAfter (24 - i) s) (by rw [hend, engineAfter_end])
      fun j hj => transferAt_stateAfter.mpr (h _ (by omega))
    rw [← stateAfter_add] at haccept
    exact ⟨24 - i + j, _, by omega, runTicks_eq_next s _, haccept⟩

end Sys2Proof.Proofs

/-! ## Proofs: the invariant of the reachable states

Each field of `Inv` after a tick from what the parts of the tick do: the engine by its transfer's count, the sequencer
by `nextFsm`, ERRC and the output ports by what is presented. -/

namespace Sys2Proof.Machine

section Invariant

variable {s : State}

/-! ### The engine -/

theorem phaseAfter_eq_setup_iff (j : Nat) : phaseAfter j = .setup ↔ j % 3 = 0 := by
  unfold phaseAfter
  split
  · simp [*]
  · split <;> simp [*]

theorem phaseAfter_eq_low_iff (j : Nat) : phaseAfter j = .low ↔ j % 3 = 2 := by
  unfold phaseAfter
  split
  · simp [*]
  · split
    · simp [*]
    · simp only [true_iff]
      omega

/-- A transfer one step on is sound, or it has ended with the engine at rest (R71). -/
theorem TransferAfter.engineSound {b : Byte} {j : Nat} (h : TransferAfter b j s) (hpos : 0 < j) (hj : j ≤ 24)
    (hdata : j % 3 ≠ 0 → s.data = b.getLsbD (j / 3)) : EngineSound s := by
  have hsh : s.eng.sh = b := by rw [h.eng]; rfl
  obtain rfl | hlt := Nat.eq_or_lt_of_le hj
  · exact .inl ⟨by rw [hsh, h.eng, engineAfter_end], h.clk⟩
  · rw [← hsh] at h hdata
    exact .inr ⟨j, h, hpos, hlt, hdata⟩

theorem EngineSound.tickNext (h : EngineSound s) (hr : (nextInput s).rst = false) : EngineSound (tickNext s) := by
  obtain ⟨hrest, hclk⟩ | ⟨j, hrun⟩ := h
  · rw [tickNext_of_not_rst s hr]
    obtain heng | ⟨b, heng⟩ := afterCommand_eng_eq_or_load s
    · have hidle : (afterCommand s).eng.busy = false := by rw [heng, hrest]
      refine .inl ⟨?_, ?_⟩
      · rw [endTick_eng, engineStep_idle _ hidle, heng]
        exact hrest
      · rw [endTick_clk, engineStep_idle _ hidle, afterCommand, commandStep_clk, beforeCommand_clk, hclk]
    · have hload := transferAfter_zero hclk heng
      exact (hload.endTick (by omega)).engineSound (by omega) (by omega) fun _ => hload.endTick_data (by omega)
  · refine (hrun.toTransferAfter.tickNext hrun.lt hr).engineSound (Nat.succ_pos j) hrun.lt fun hne => ?_
    rw [hrun.toTransferAfter.tickNext_data hrun.lt hr]
    split
    · congr 1
      omega
    · rw [hrun.data (by assumption)]
      congr 1
      omega

/-- The engine's part of the invariant, field by field. -/
theorem EngineSound.shape (h : EngineSound s) :
    s.clk = (s.eng.busy && s.eng.phase == .low) ∧
      (s.eng.busy = false → s.eng.n = 0 ∧ s.eng.phase = .setup) ∧
      (s.eng.busy = true → s.eng.phase = .setup → s.eng.n ≠ 0) ∧
      (s.eng.busy = true → s.eng.phase ≠ .setup → s.data = s.eng.sh.getLsbD s.eng.n.toNat) := by
  obtain ⟨hrest, hclk⟩ | ⟨j, hrun⟩ := h
  · rw [hrest, hclk]
    simp
  · have hpos := hrun.pos
    have hlt := hrun.lt
    have hbusy : s.eng.busy = true := busy_of_engineAfter hrun.eng hlt
    have hphase : s.eng.phase = phaseAfter j := by rw [hrun.eng]; rfl
    have hn : s.eng.n.toNat = j / 3 := by rw [hrun.eng]; exact toNat_bitIndex (by omega)
    refine ⟨?_, fun hidle => absurd hidle (by simp [hbusy]), fun _ hsetup h0 => ?_, fun _ hne => ?_⟩
    · rw [hrun.clk, hbusy, Bool.true_and, hphase, beq_eq_decide]
      exact decide_eq_decide.mpr (phaseAfter_eq_low_iff j).symm
    · rw [hphase, phaseAfter_eq_setup_iff] at hsetup
      have hzero : s.eng.n.toNat = 0 := by rw [h0]; rfl
      omega
    · rw [hphase, ne_eq, phaseAfter_eq_setup_iff] at hne
      rw [hrun.data hne, hn]

/-! ### The sequencer -/

/-- DSHIFT follows DSTART's load, or itself while the transfer runs (R88, R89). -/
theorem nextFsm_eq_dshift_iff :
    nextFsm s = .dshift ↔
      (s.fsm = .dstart ∧ s.auto = true ∧ s.eng.busy = false) ∨ (s.fsm = .dshift ∧ s.eng.busy = true) := by
  rw [nextFsm]
  cases hf : s.fsm
  case dstart => cases s.auto <;> cases s.eng.busy <;> simp
  case dshift => cases s.eng.busy <;> simp
  case idle => simp only; split <;> simp
  case wait => simp only; split <;> simp
  case dhold => simp only; split <;> simp
  case arm => simp
  case clear => simp

/-- The stages after the sampling tick follow one another, or the sampling tick itself (R97). -/
theorem sampled_of_nextFsm_sampled (h : (nextFsm s).sampled = true) :
    s.fsm.sampled = true ∨ (s.fsm = .wait ∧ s.dbcnt = 0) := by
  rw [nextFsm] at h
  cases hf : s.fsm <;> rw [hf] at h
  case idle => simp only at h; split at h <;> cases h
  case wait =>
    simp only at h
    split at h
    · exact .inr ⟨rfl, by assumption⟩
    · cases h
  case clear => cases h
  all_goals exact .inl rfl

theorem nextFsm_of_wait_of_dbcnt (hf : s.fsm = .wait) (h : s.dbcnt ≠ 0) : nextFsm s = .wait := by
  rw [nextFsm, hf]
  exact if_neg h

/-- DBCNT stays in its range, and at 0 outside WAIT (R34, R86, R87). -/
theorem tickNext_dbcnt_range (hr : (nextInput s).rst = false) (hbound : s.dbcnt ≤ s.inst.debounceTicks)
    (hrest : s.fsm ≠ .wait → s.dbcnt = 0) :
    (tickNext s).dbcnt ≤ (tickNext s).inst.debounceTicks ∧ ((tickNext s).fsm ≠ .wait → (tickNext s).dbcnt = 0) := by
  rw [tickNext_inst, tickNext_fsm s hr, tickNext_dbcnt hr]
  by_cases hf : s.fsm = .wait
  · rw [if_pos hf]
    by_cases h0 : s.dbcnt = 0
    · rw [if_pos h0]
      exact ⟨Nat.zero_le _, fun _ => rfl⟩
    · rw [if_neg h0]
      exact ⟨by bv_omega, fun hne => absurd (nextFsm_of_wait_of_dbcnt hf h0) hne⟩
  · rw [if_neg hf]
    split
    · exact ⟨BitVec.le_refl _, fun hne => absurd (by assumption) hne⟩
    · exact ⟨hbound, fun _ => hrest hf⟩

/-- ACK is the only command that writes CHG or ACKED (R101). -/
theorem commandStep_chg_acked (s : State) (p : Presented) :
    ((commandStep p s).chg = false ∧ (commandStep p s).acked = true) ∨
      ((commandStep p s).chg = s.chg ∧ (commandStep p s).acked = s.acked) := by
  by_cases hack : p = .word (.legal .ack)
  · exact .inl (by rw [hack]; exact ⟨rfl, rfl⟩)
  · exact .inr ⟨commandStep_chg s p hack, commandStep_acked s p hack⟩

/-- A change is never both flagged and acknowledged, and from the sampling tick on it is one of them (R87, R101). -/
theorem tickNext_chg_acked (hr : (nextInput s).rst = false) (hnever : (s.chg && s.acked) = false)
    (hsampled : s.fsm.sampled = true → (s.chg || s.acked) = true) :
    ((tickNext s).chg && (tickNext s).acked) = false ∧
      ((tickNext s).fsm.sampled = true → ((tickNext s).chg || (tickNext s).acked) = true) := by
  rw [tickNext_fsm s hr, tickNext_of_not_rst s hr, endTick_chg, endTick_acked, afterCommand]
  obtain ⟨hchg, hacked⟩ | ⟨hchg, hacked⟩ := commandStep_chg_acked (beforeCommand s) (presents (nextInput s))
  · simp [hchg, hacked]
  · rw [hchg, hacked, beforeCommand_chg, beforeCommand_acked, ← Bool.decide_and]
    by_cases hsamp : s.fsm = .wait ∧ s.dbcnt = 0
    · simp [hsamp]
    · rw [if_neg hsamp, decide_eq_false hsamp, Bool.or_false]
      exact ⟨hnever, fun h => hsampled ((sampled_of_nextFsm_sampled h).resolve_right hsamp)⟩

/-- In DSHIFT the transfer is the sequencer's own, running or completed (R88, R89). -/
theorem tickNext_dshift (hr : (nextInput s).rst = false) (h : Inv s) (hf : (tickNext s).fsm = .dshift) :
    ((tickNext s).eng.busy = true → (tickNext s).eng.sh = memRead (tickNext s) (tickNext s).value) ∧
      ((tickNext s).eng.busy = false → (tickNext s).last = memRead (tickNext s) (tickNext s).value) := by
  rw [memRead_congr s _ (tickNext_inst s)]
  rw [tickNext_fsm s hr, nextFsm_eq_dshift_iff] at hf
  obtain ⟨hdstart, hauto, hfree⟩ | ⟨hdshift, hbusy⟩ := hf
  · obtain ⟨-, hvalue, heng⟩ := tickNext_of_dstart_free hr hdstart hauto hfree
    rw [hvalue, heng]
    exact ⟨fun _ => rfl, fun hidle => absurd hidle (by simp)⟩
  · have hown := h.dshiftOwn hdshift hbusy
    obtain ⟨j, hrun⟩ := h.soundTransfer hbusy
    obtain ⟨heng, hlast⟩ := tickNext_engineAfter hr hrun.eng hrun.lt
    rw [tickNext_value_of_fsm_ne_wait s hr (by simp [hdshift]), ← hown, heng, hlast, engineAfter_busy]
    refine ⟨fun _ => rfl, fun hend => if_pos ?_⟩
    have hlt := hrun.lt
    have hnot := of_decide_eq_false hend
    omega

/-! ### ERRC and the output ports -/

theorem errcLegal_reservedOpcode : ∀ o : Nibble, 0xA ≤ o → errcLegal (errcOf .reservedOpcode o) = true := by decide

theorem errcLegal_nonzeroMbz : ∀ o : Nibble, o < 0xA → errcLegal (errcOf .nonzeroMbz o) = true := by decide

/-- The record of an illegal word is one of R106. -/
theorem errcLegal_of_illegal {w : Word} {c : Cause} {o : Nibble} (h : decode w = .illegal c o) :
    errcLegal (errcOf c o) = true := by
  cases c with
  | reservedOpcode =>
    obtain ⟨-, hlarge⟩ := (decode_eq_reservedOpcode_iff w o).mp h
    exact errcLegal_reservedOpcode o hlarge
  | reservedReg =>
    obtain ⟨-, rfl, -⟩ := (decode_eq_reservedReg_iff w o).mp h
    rfl
  | nonzeroMbz =>
    obtain ⟨-, i, hop, -⟩ := (decode_eq_nonzeroMbz_iff w o).mp h
    exact errcLegal_nonzeroMbz o ((exists_opcode_eq_iff o).mp ⟨i, hop⟩)

theorem commandStep_errcLegal (i : TickInput) (h : errcLegal s.errc = true) :
    errcLegal (commandStep (presents i) s).errc = true := by
  cases hr : i.rst
  · cases hc : i.cmd with
    | none =>
      rw [presents_none i hr hc]
      exact h
    | some w =>
      rw [presents_word i w hr hc]
      cases hd : decode w with
      | legal c =>
        obtain ⟨-, hwf⟩ := Proofs.encodeOfDecode w c hd
        rwa [commandStep_legal, execNext_errc s c hwf]
      | illegal c o =>
        rw [commandStep_illegal, illegalCommand_errc]
        split
        · exact h
        · exact errcLegal_of_illegal hd
  · rw [presents_reset i hr]
    exact h

/-- RSP is 0x00 without RSP_VALID, and a response comes only with a taken word (R22, R63). -/
def HostOut.sound (o : HostOut) : Prop := (o.rspValid = false → o.rsp = 0) ∧ (o.rspValid = true → o.accept = true)

theorem HostOut.sound_none : HostOut.none.sound := ⟨fun _ => rfl, fun h => nomatch h⟩

theorem HostOut.sound_taken : HostOut.sound ⟨true, false, 0x00⟩ := ⟨fun _ => rfl, fun _ => rfl⟩

theorem HostOut.sound_answer (b : Byte) : HostOut.sound ⟨true, true, b⟩ := ⟨(nomatch ·), fun _ => rfl⟩

theorem hostTransfer_out_sound (s : State) (v : Byte) : (hostTransfer v s).out.sound := by
  cases hb : s.eng.busy
  · rw [hostTransfer_free s v hb]
    exact HostOut.sound_taken
  · rw [hostTransfer_busy s v hb]
    exact HostOut.sound_none

theorem commandStep_out_sound (s : State) (p : Presented) : (commandStep p s).out.sound := by
  match p with
  | .reset => exact HostOut.sound_none
  | .none => exact HostOut.sound_none
  | .word (.illegal c op) => exact HostOut.sound_taken
  | .word (.legal i) =>
    rw [commandStep_legal]
    cases i with
    | shift v => exact hostTransfer_out_sound s v
    | showSeg k => exact hostTransfer_out_sound s (memRead s k)
    | rdsw => exact HostOut.sound_answer _
    | rdreg r =>
      cases hr : regName? r with
      | some name =>
        rw [execNext_eq_of_next s (exec_rdreg_some s hr)]
        exact HostOut.sound_answer _
      | none =>
        rw [execNext_eq_of_next s (exec_rdreg_none s hr)]
        exact HostOut.sound_taken
    | _ => exact HostOut.sound_taken

/-! ### Reset and the other ticks -/

/-- A reset leaves every field of the invariant at its reset value (R120). -/
theorem inv_resetRegisters (s : State) : Inv (resetRegisters s) where
  clkShape := rfl
  idleShape := fun _ => ⟨rfl, rfl⟩
  setupShape := fun h => nomatch h
  dataShape := fun h => nomatch h
  dbcntBound := Nat.zero_le _
  dbcntRest := fun _ => rfl
  dshiftOwn := fun h => nomatch h
  dshiftDone := fun h => nomatch h
  chgAcked := rfl
  sampledChg := fun h => nomatch h
  errcShape := rfl
  prevLevels := rfl
  outShape := HostOut.sound_none

theorem inv_tickNext_of_not_rst (hr : (nextInput s).rst = false) (h : Inv s) : Inv (tickNext s) := by
  obtain ⟨hclk, hidle, hsetup, hdata⟩ := (h.engineSound.tickNext hr).shape
  obtain ⟨hbound, hrest⟩ := tickNext_dbcnt_range hr h.dbcntBound h.dbcntRest
  obtain ⟨hnever, hsampled⟩ := tickNext_chg_acked hr h.chgAcked h.sampledChg
  refine ⟨hclk, hidle, hsetup, hdata, hbound, hrest, fun hf => (tickNext_dshift hr h hf).1,
    fun hf => (tickNext_dshift hr h hf).2, hnever, hsampled, ?_, ?_, ?_⟩ <;> rw [tickNext_of_not_rst s hr]
  · rw [endTick_errc, afterCommand]
    exact commandStep_errcLegal _ (by rw [beforeCommand_errc]; exact h.errcShape)
  · rw [endTick_prev, endTick_input, afterCommand, commandStep_prev, commandStep_input, beforeCommand_prev,
      beforeCommand_input]
  · rw [endTick_out]
    exact commandStep_out_sound _ _

end Invariant

end Sys2Proof.Machine

namespace Sys2Proof.Proofs

open Sys2Proof Sys2Proof.Machine

/-- Settles O60: a reset tick gives reset values, every other tick keeps each field. -/
theorem stepKeepsInvariant : Obligations.StepKeepsInvariant := by
  refine fun s hinv => ⟨_, step_eq_next s, ?_⟩
  cases hr : (nextInput s).rst
  · exact inv_tickNext_of_not_rst hr hinv
  · rw [tickNext_of_rst s hr]
    exact inv_resetRegisters (takeInput s)

/-- Settles O59: the reset state is what a reset leaves of it. -/
theorem invariantAtReset : Obligations.InvariantAtReset := inv_resetRegisters State.reset

/-- Settles O56: with PREV at the levels of the reset tick, steady levels make no edge. -/
theorem resetStateIsQuiet : Obligations.ResetStateIsQuiet := by
  refine ⟨⟨rfl, rfl, rfl, rfl, rfl, rfl, rfl, rfl, rfl, rfl, rfl, rfl, rfl, rfl⟩, fun s hr0 hr1 hsteady => ?_⟩
  rw [inputAt_zero] at hr0 hsteady
  rw [← nextInput_tickNext] at hr1 hsteady
  refine ⟨_, runTicks_eq_next s 2, tickNext_pend_eq_zero hr1 ?_⟩
  have hreset : tickNext s = resetRegisters (takeInput s) := by rw [tickNext_of_rst s hr0, resetTick_eq]
  rw [beforeCommand_pend, hsteady, hreset, resetRegisters_prev, takeInput_input, armedEdges_self]
  simp

end Sys2Proof.Proofs
